-- ==== Sys2Proof/Word.lean ====
section
/-! DEFINITION. The fixed widths of the block (00_scope.md R10, 30_encoding.md R61 and R62). Every value is an unsigned
bit vector of its stated width, and there is no signed arithmetic anywhere (R12). -/

namespace Sys2Proof

/-- One byte: a payload byte, a station address, an opcode, a length, a count (R10, R61). -/
abbrev Byte := BitVec 8

/-- A CAN identifier: 11 bits (R6, R10). -/
abbrev CanId := BitVec 11

/-- The request field `W` and the response field `V` (R61, R62). -/
abbrev Word32 := BitVec 32

/-- The request field `P` and the response field `F`: 8 bytes, byte `i` at bits `[8i+7:8i]` (R41, R61, R62). -/
abbrev Payload := BitVec 64

/-- A whole request or response word (R60). -/
abbrev Word128 := BitVec 128

end Sys2Proof
end

