-- ==== Sys2Proof/Config.lean ====
section
/-! DEFINITION. The configuration record `Cfg` (00_scope.md R6 to R8, 10_state.md R26), and the values the spec leaves open, each
an uninterpreted constant. No number is chosen here for any of them. -/

namespace Sys2Proof

/-- The 17 command selectors, in the order of 30_encoding.md R68. -/
inductive Cmd where
  | getDevInfo | prepare | getBlVer | getAppVer | getHwType | getBatSn | getPktLen | setPktLen | setAppLen
  | setPktSeq | setPktAddr | sendPkt | verifyPkt | verifyAll | updateCur | updateAll | getUpdStatus
deriving DecidableEq, Repr, Inhabited

/-- The 15 commands that have a response (R68, 42_dfu_commands.md R151): all but UPDATE_CUR and UPDATE_ALL. -/
inductive RspCmd where
  | getDevInfo | prepare | getBlVer | getAppVer | getHwType | getBatSn | getPktLen | setPktLen | setAppLen
  | setPktSeq | setPktAddr | sendPkt | verifyPkt | verifyAll | getUpdStatus
deriving DecidableEq, Repr, Inhabited

/-- `Cfg.OPC[k]`: the wire opcode of each command (R7). -/
structure OpcTable where
  getDevInfo : Byte
  prepare : Byte
  getBlVer : Byte
  getAppVer : Byte
  getHwType : Byte
  getBatSn : Byte
  getPktLen : Byte
  setPktLen : Byte
  setAppLen : Byte
  setPktSeq : Byte
  setPktAddr : Byte
  sendPkt : Byte
  verifyPkt : Byte
  verifyAll : Byte
  updateCur : Byte
  updateAll : Byte
  getUpdStatus : Byte
deriving DecidableEq, Repr, Inhabited

/-- `Cfg.RSP_LEN[k]`: the expected length byte of each response (R8, R151). -/
structure RspLenTable where
  getDevInfo : Byte
  prepare : Byte
  getBlVer : Byte
  getAppVer : Byte
  getHwType : Byte
  getBatSn : Byte
  getPktLen : Byte
  setPktLen : Byte
  setAppLen : Byte
  setPktSeq : Byte
  setPktAddr : Byte
  sendPkt : Byte
  verifyPkt : Byte
  verifyAll : Byte
  getUpdStatus : Byte
deriving DecidableEq, Repr, Inhabited

/-- The configuration record, fixed when the block is built (10_state.md R26). -/
structure Cfg where
  /-- `Cfg.CMD_ID`: identifier of command frames. -/
  cmdId : CanId
  /-- `Cfg.DAT_ID`: identifier of data frames. -/
  datId : CanId
  /-- `Cfg.RSP_ID`: identifier of response frames. -/
  rspId : CanId
  /-- `Cfg.OPC[k]`. -/
  opc : OpcTable
  /-- `Cfg.RSP_LEN[k]`. -/
  rspLen : RspLenTable
deriving DecidableEq, Repr, Inhabited

/-- The five response lengths that are OPEN, "a parameter with no default" (42_dfu_commands.md R151). -/
structure OpenLens where
  getDevInfo : Byte
  getAppVer : Byte
  getHwType : Byte
  getBatSn : Byte
  setPktAddr : Byte
deriving DecidableEq, Repr, Inhabited

/-- What a builder must supply, because the spec gives no value for it (92_eei_decisions.md D21 to D23). -/
structure OpenParams where
  /-- `Cfg.CMD_ID` -/
  cmdId : CanId
  /-- `Cfg.DAT_ID` -/
  datId : CanId
  /-- `Cfg.RSP_ID` -/
  rspId : CanId
  /-- `Cfg.OPC[k]` -/
  opc : OpcTable
  /-- the OPEN ones of `Cfg.RSP_LEN[k]` -/
  lens : OpenLens
deriving DecidableEq, Repr, Inhabited

/-- The six response lengths marked "default" in R151. A builder may replace each (`some`) or leave it (`none`), and then the
spec's value is in force. -/
structure LenChoices where
  getPktLen : Option Byte := none
  setAppLen : Option Byte := none
  setPktSeq : Option Byte := none
  sendPkt : Option Byte := none
  verifyPkt : Option Byte := none
  getUpdStatus : Option Byte := none
deriving DecidableEq, Repr, Inhabited

/-- The OPEN parameters of the block of State.reset: no value is given, so uninterpreted (log 2). -/
opaque Config.openParams : OpenParams

/-- What `acc16` holds after the `n`-th reset of a running block: unspecified (10_state.md R28), so a free value (log 4). -/
opaque Config.freeAcc16 : Nat → BitVec 16

/-- What `acc32` holds after the `n`-th reset of a running block: unspecified (R28), so a free value (log 4). -/
opaque Config.freeAcc32 : Nat → BitVec 32

/-- `BROADCAST_ADDR`: the address a caller passes in `A` of UPDATE_ALL. OPEN, caller-side (D36, R183); the block never reads
it (log 12). -/
opaque Config.broadcastAddr : Byte

/-- `SN_FIRST_SEQ`: the first sequence byte of a serial-number response. OPEN, caller-side (D33, R164); the block never
reads it (log 12). -/
opaque Config.snFirstSeq : Byte

end Sys2Proof
end

