-- ==== Sys2Proof/Machine/Parameters.lean ====
section
/-! DEFINITION. Reading the configuration record, and the conditions a legal one meets (10_state.md R26, R27). -/

namespace Sys2Proof

/-- The command a response answers. -/
def RspCmd.cmd : RspCmd → Cmd
  | .getDevInfo => .getDevInfo
  | .prepare => .prepare
  | .getBlVer => .getBlVer
  | .getAppVer => .getAppVer
  | .getHwType => .getHwType
  | .getBatSn => .getBatSn
  | .getPktLen => .getPktLen
  | .setPktLen => .setPktLen
  | .setAppLen => .setAppLen
  | .setPktSeq => .setPktSeq
  | .setPktAddr => .setPktAddr
  | .sendPkt => .sendPkt
  | .verifyPkt => .verifyPkt
  | .verifyAll => .verifyAll
  | .getUpdStatus => .getUpdStatus

/-- All selectors, in the order of R68. -/
def Cmd.all : List Cmd :=
  [.getDevInfo, .prepare, .getBlVer, .getAppVer, .getHwType, .getBatSn, .getPktLen, .setPktLen, .setAppLen,
   .setPktSeq, .setPktAddr, .sendPkt, .verifyPkt, .verifyAll, .updateCur, .updateAll, .getUpdStatus]

/-- All commands that have a response, in the order of R151. -/
def RspCmd.all : List RspCmd :=
  [.getDevInfo, .prepare, .getBlVer, .getAppVer, .getHwType, .getBatSn, .getPktLen, .setPktLen, .setAppLen,
   .setPktSeq, .setPktAddr, .sendPkt, .verifyPkt, .verifyAll, .getUpdStatus]

/-- `Cfg.OPC[k]` (R7). -/
def Cfg.opcOf (c : Cfg) : Cmd → Byte
  | .getDevInfo => c.opc.getDevInfo
  | .prepare => c.opc.prepare
  | .getBlVer => c.opc.getBlVer
  | .getAppVer => c.opc.getAppVer
  | .getHwType => c.opc.getHwType
  | .getBatSn => c.opc.getBatSn
  | .getPktLen => c.opc.getPktLen
  | .setPktLen => c.opc.setPktLen
  | .setAppLen => c.opc.setAppLen
  | .setPktSeq => c.opc.setPktSeq
  | .setPktAddr => c.opc.setPktAddr
  | .sendPkt => c.opc.sendPkt
  | .verifyPkt => c.opc.verifyPkt
  | .verifyAll => c.opc.verifyAll
  | .updateCur => c.opc.updateCur
  | .updateAll => c.opc.updateAll
  | .getUpdStatus => c.opc.getUpdStatus

/-- `Cfg.RSP_LEN[k]` (R8). -/
def Cfg.rspLenOf (c : Cfg) : RspCmd → Byte
  | .getDevInfo => c.rspLen.getDevInfo
  | .prepare => c.rspLen.prepare
  | .getBlVer => c.rspLen.getBlVer
  | .getAppVer => c.rspLen.getAppVer
  | .getHwType => c.rspLen.getHwType
  | .getBatSn => c.rspLen.getBatSn
  | .getPktLen => c.rspLen.getPktLen
  | .setPktLen => c.rspLen.setPktLen
  | .setAppLen => c.rspLen.setAppLen
  | .setPktSeq => c.rspLen.setPktSeq
  | .setPktAddr => c.rspLen.setPktAddr
  | .sendPkt => c.rspLen.sendPkt
  | .verifyPkt => c.rspLen.verifyPkt
  | .verifyAll => c.rspLen.verifyAll
  | .getUpdStatus => c.rspLen.getUpdStatus

/-- The least length byte whose response holds all that the command's check and extraction read (R151, column "minimum"). -/
def RspCmd.minLen : RspCmd → Nat
  | .getDevInfo => 2
  | .prepare => 5
  | .getBlVer => 7
  | .getAppVer => 2
  | .getHwType => 2
  | .getBatSn => 3
  | .getPktLen => 4
  | .setPktLen => 3
  | .setAppLen => 6
  | .setPktSeq => 5
  | .setPktAddr => 2
  | .sendPkt => 3
  | .verifyPkt => 3
  | .verifyAll => 3
  | .getUpdStatus => 3

/-- R27: a `Cfg` is legal only if all five items hold. The first half of item 1 (each identifier below 0x800) is the
width of `CanId`. -/
def Cfg.legal (c : Cfg) : Bool :=
  c.cmdId != c.datId && c.cmdId != c.rspId && c.datId != c.rspId
  && Cmd.all.all (fun k => (c.opcOf k).getLsbD 6 == false)
  && RspCmd.all.all (fun k => decide (2 ≤ (c.rspLenOf k).toNat) && decide ((c.rspLenOf k).toNat ≤ 7))
  && (c.rspLenOf .prepare == 5 && c.rspLenOf .getBlVer == 7 && c.rspLenOf .setPktLen == 3 && c.rspLenOf .verifyAll == 3)
  && RspCmd.all.all (fun k => decide (k.minLen ≤ (c.rspLenOf k).toNat))

/-- The expected response lengths of 42_dfu_commands.md R151: the source's four, the OPEN ones as supplied, and for the other
six the spec's default unless the builder replaced it. -/
def RspLenTable.ofBuilder (o : OpenLens) (c : LenChoices) : RspLenTable where
  getDevInfo := o.getDevInfo
  prepare := 5
  getBlVer := 7
  getAppVer := o.getAppVer
  getHwType := o.getHwType
  getBatSn := o.getBatSn
  getPktLen := c.getPktLen.getD 4
  setPktLen := 3
  setAppLen := c.setAppLen.getD 6
  setPktSeq := c.setPktSeq.getD 5
  setPktAddr := o.setPktAddr
  sendPkt := c.sendPkt.getD 3
  verifyPkt := c.verifyPkt.getD 3
  verifyAll := 3
  getUpdStatus := c.getUpdStatus.getD 3

/-- The configuration record a builder makes: the OPEN parameters supplied, the default lengths kept or replaced (R151; 00_scope.md
R6 to R8). -/
def Cfg.ofBuilder (o : OpenParams) (c : LenChoices) : Cfg where
  cmdId := o.cmdId
  datId := o.datId
  rspId := o.rspId
  opc := o.opc
  rspLen := RspLenTable.ofBuilder o.lens c

/-- OPEN parameters that make a legal record, to stand where the uninterpreted ones do not (DESIGN CHOICE, log 2). -/
def OpenParams.fallback : OpenParams where
  cmdId := 0
  datId := 1
  rspId := 2
  opc := default
  lens := ⟨2, 2, 2, 3, 2⟩

/-- A configuration record a block can be built from: R27 is part of the type, so an illegal record has no meaning. -/
structure LegalCfg where
  raw : Cfg
  legal : raw.legal = true
deriving DecidableEq, Repr

/-- The OPEN parameters of the block of State.reset: the uninterpreted ones where they make a legal record (log 2). -/
def Config.params : OpenParams :=
  if (Cfg.ofBuilder Config.openParams {}).legal then Config.openParams else OpenParams.fallback

/-- The configuration of the block of State.reset: its OPEN parameters, with every default of R151 in force (log 2). -/
def Config.cfg : LegalCfg where
  raw := Cfg.ofBuilder Config.params {}
  legal := by
    unfold Config.params
    split
    · assumption
    · decide

end Sys2Proof
end

