-- ==== Sys2Proof/Syntax.lean ====
section
/-! DEFINITION. The instructions: one constructor per row of spec/opcode_table.json. A row is selected by `OP` alone for the
nine plain operations, and by `OP` and `K` for `ENC` and `DEC` (30_encoding.md, opening paragraph, and R60). An
instruction carries every request bit its row does not fix: whether a field is used, ignored or must be zero is for the
operation to say (R64, R66, R67), so a request with a nonzero reserved field is an instruction too, and its meaning is the
answer R66 gives it. -/

namespace Sys2Proof

/-- The request fields `A`, `B`, `W` and `P` (30_encoding.md R61). -/
structure Operands where
  /-- bits [23:16] -/
  a : Byte
  /-- bits [31:24] -/
  b : Byte
  /-- bits [63:32] -/
  w : Word32
  /-- bits [127:64] -/
  p : Payload
deriving DecidableEq, Repr, Inhabited

/-- The 40 rows of the opcode table. A plain operation also carries its field `K`, which R64 marks "0". -/
inductive Instr where
  | nop (k : Byte) (r : Operands)
  | crc16Init (k : Byte) (r : Operands)
  | crc16Feed (k : Byte) (r : Operands)
  | crc16Read (k : Byte) (r : Operands)
  | crc32Init (k : Byte) (r : Operands)
  | crc32Feed (k : Byte) (r : Operands)
  | crc32Read (k : Byte) (r : Operands)
  | frameCmd (k : Byte) (r : Operands)
  | frameData (k : Byte) (r : Operands)
  | encGetDevInfo (r : Operands)
  | encPrepare (r : Operands)
  | encGetBlVer (r : Operands)
  | encGetAppVer (r : Operands)
  | encGetHwType (r : Operands)
  | encGetBatSn (r : Operands)
  | encGetPktLen (r : Operands)
  | encSetPktLen (r : Operands)
  | encSetAppLen (r : Operands)
  | encSetPktSeq (r : Operands)
  | encSetPktAddr (r : Operands)
  | encVerifyPkt (r : Operands)
  | encVerifyAll (r : Operands)
  | encUpdateCur (r : Operands)
  | encUpdateAll (r : Operands)
  | encGetUpdStatus (r : Operands)
  | decGetDevInfo (r : Operands)
  | decPrepare (r : Operands)
  | decGetBlVer (r : Operands)
  | decGetAppVer (r : Operands)
  | decGetHwType (r : Operands)
  | decGetBatSn (r : Operands)
  | decGetPktLen (r : Operands)
  | decSetPktLen (r : Operands)
  | decSetAppLen (r : Operands)
  | decSetPktSeq (r : Operands)
  | decSetPktAddr (r : Operands)
  | decSendPkt (r : Operands)
  | decVerifyPkt (r : Operands)
  | decVerifyAll (r : Operands)
  | decGetUpdStatus (r : Operands)
deriving DecidableEq, Repr

end Sys2Proof
end

