-- ==== Sys2Proof/Decode.lean ====
section
/-! DEFINITION. From the 16 bytes of a request to its instruction, and back. A request word's bytes travel least
significant first (20_memory.md R43): `OP, K, A, B, W[7:0] .. W[31:24], P[0] .. P[7]`. Decoding goes by `OP` and then, for
`ENC` and `DEC`, by `K` (30_encoding.md R60, R63, R68). -/

namespace Sys2Proof

/-- Why a sequence of bytes is no instruction. -/
inductive DecodeError where
  /-- not the 16 bytes of one request word (R43, R60) -/
  | notOneWord
  /-- `OP` is 0x07 or 0x0C to 0xFF (R65) -/
  | illegalOp
  /-- `K` is above 0x10, or 0x0B with `ENC`, or 0x0E or 0x0F with `DEC` (R68) -/
  | illegalK
deriving DecidableEq, Repr

/-- Byte `j` of a word: bits `[8j+7:8j]` (R43). -/
def wordByte (q : Word128) (j : Nat) : Byte := q.extractLsb' (8 * j) 8

/-- The 16 bytes of a request or response word in the order they travel, least significant first (R43). -/
def bytesOfWord (q : Word128) : List Byte := (List.range 16).map (wordByte q)

/-- The command a selector names (R68). -/
def Cmd.ofSelector (k : Byte) : Option Cmd := Cmd.all[k.toNat]?

/-- The selector of a command (R68). -/
def Cmd.selector : Cmd → Byte
  | .getDevInfo => 0x00
  | .prepare => 0x01
  | .getBlVer => 0x02
  | .getAppVer => 0x03
  | .getHwType => 0x04
  | .getBatSn => 0x05
  | .getPktLen => 0x06
  | .setPktLen => 0x07
  | .setAppLen => 0x08
  | .setPktSeq => 0x09
  | .setPktAddr => 0x0A
  | .sendPkt => 0x0B
  | .verifyPkt => 0x0C
  | .verifyAll => 0x0D
  | .updateCur => 0x0E
  | .updateAll => 0x0F
  | .getUpdStatus => 0x10

/-- The row of `OP = 0x0A` that a command selects. SEND_PKT has none: its data goes by FRAME_DATA (R68, R175). -/
def encRow (c : Cmd) (r : Operands) : Except DecodeError Instr :=
  match c with
  | .getDevInfo => .ok (.encGetDevInfo r)
  | .prepare => .ok (.encPrepare r)
  | .getBlVer => .ok (.encGetBlVer r)
  | .getAppVer => .ok (.encGetAppVer r)
  | .getHwType => .ok (.encGetHwType r)
  | .getBatSn => .ok (.encGetBatSn r)
  | .getPktLen => .ok (.encGetPktLen r)
  | .setPktLen => .ok (.encSetPktLen r)
  | .setAppLen => .ok (.encSetAppLen r)
  | .setPktSeq => .ok (.encSetPktSeq r)
  | .setPktAddr => .ok (.encSetPktAddr r)
  | .sendPkt => .error .illegalK
  | .verifyPkt => .ok (.encVerifyPkt r)
  | .verifyAll => .ok (.encVerifyAll r)
  | .updateCur => .ok (.encUpdateCur r)
  | .updateAll => .ok (.encUpdateAll r)
  | .getUpdStatus => .ok (.encGetUpdStatus r)

/-- The row of `OP = 0x0B` that a command selects. UPDATE_CUR and UPDATE_ALL have none: they expect no response (R68,
R182, R184). -/
def decRow (c : Cmd) (r : Operands) : Except DecodeError Instr :=
  match c with
  | .getDevInfo => .ok (.decGetDevInfo r)
  | .prepare => .ok (.decPrepare r)
  | .getBlVer => .ok (.decGetBlVer r)
  | .getAppVer => .ok (.decGetAppVer r)
  | .getHwType => .ok (.decGetHwType r)
  | .getBatSn => .ok (.decGetBatSn r)
  | .getPktLen => .ok (.decGetPktLen r)
  | .setPktLen => .ok (.decSetPktLen r)
  | .setAppLen => .ok (.decSetAppLen r)
  | .setPktSeq => .ok (.decSetPktSeq r)
  | .setPktAddr => .ok (.decSetPktAddr r)
  | .sendPkt => .ok (.decSendPkt r)
  | .verifyPkt => .ok (.decVerifyPkt r)
  | .verifyAll => .ok (.decVerifyAll r)
  | .updateCur => .error .illegalK
  | .updateAll => .error .illegalK
  | .getUpdStatus => .ok (.decGetUpdStatus r)

/-- The instruction of a request with these fields (R60, R63, R65, R68). -/
def decodeFields (op k : Byte) (r : Operands) : Except DecodeError Instr :=
  if op = 0x00 then .ok (.nop k r)
  else if op = 0x01 then .ok (.crc16Init k r)
  else if op = 0x02 then .ok (.crc16Feed k r)
  else if op = 0x03 then .ok (.crc16Read k r)
  else if op = 0x04 then .ok (.crc32Init k r)
  else if op = 0x05 then .ok (.crc32Feed k r)
  else if op = 0x06 then .ok (.crc32Read k r)
  else if op = 0x08 then .ok (.frameCmd k r)
  else if op = 0x09 then .ok (.frameData k r)
  else if op = 0x0A then
    match Cmd.ofSelector k with
    | some c => encRow c r
    | none => .error .illegalK
  else if op = 0x0B then
    match Cmd.ofSelector k with
    | some c => decRow c r
    | none => .error .illegalK
  else .error .illegalOp

/-- The instruction that the bytes of one request word hold, rejecting by name (R43, R60, R61). -/
def decode : List Byte → Except DecodeError Instr
  | [op, k, a, b, w0, w1, w2, w3, p0, p1, p2, p3, p4, p5, p6, p7] =>
    decodeFields op k ⟨a, b, w3 ++ w2 ++ w1 ++ w0, p7 ++ p6 ++ p5 ++ p4 ++ p3 ++ p2 ++ p1 ++ p0⟩
  | _ => .error .notOneWord

/-- `OP` of an instruction (R63). -/
def Instr.op : Instr → Byte
  | .nop _ _ => 0x00
  | .crc16Init _ _ => 0x01
  | .crc16Feed _ _ => 0x02
  | .crc16Read _ _ => 0x03
  | .crc32Init _ _ => 0x04
  | .crc32Feed _ _ => 0x05
  | .crc32Read _ _ => 0x06
  | .frameCmd _ _ => 0x08
  | .frameData _ _ => 0x09
  | .encGetDevInfo _ => 0x0A
  | .encPrepare _ => 0x0A
  | .encGetBlVer _ => 0x0A
  | .encGetAppVer _ => 0x0A
  | .encGetHwType _ => 0x0A
  | .encGetBatSn _ => 0x0A
  | .encGetPktLen _ => 0x0A
  | .encSetPktLen _ => 0x0A
  | .encSetAppLen _ => 0x0A
  | .encSetPktSeq _ => 0x0A
  | .encSetPktAddr _ => 0x0A
  | .encVerifyPkt _ => 0x0A
  | .encVerifyAll _ => 0x0A
  | .encUpdateCur _ => 0x0A
  | .encUpdateAll _ => 0x0A
  | .encGetUpdStatus _ => 0x0A
  | .decGetDevInfo _ => 0x0B
  | .decPrepare _ => 0x0B
  | .decGetBlVer _ => 0x0B
  | .decGetAppVer _ => 0x0B
  | .decGetHwType _ => 0x0B
  | .decGetBatSn _ => 0x0B
  | .decGetPktLen _ => 0x0B
  | .decSetPktLen _ => 0x0B
  | .decSetAppLen _ => 0x0B
  | .decSetPktSeq _ => 0x0B
  | .decSetPktAddr _ => 0x0B
  | .decSendPkt _ => 0x0B
  | .decVerifyPkt _ => 0x0B
  | .decVerifyAll _ => 0x0B
  | .decGetUpdStatus _ => 0x0B

/-- `K` of an instruction: the selector that its row fixes (R68), or the field a plain operation carries. -/
def Instr.k : Instr → Byte
  | .nop k _ => k
  | .crc16Init k _ => k
  | .crc16Feed k _ => k
  | .crc16Read k _ => k
  | .crc32Init k _ => k
  | .crc32Feed k _ => k
  | .crc32Read k _ => k
  | .frameCmd k _ => k
  | .frameData k _ => k
  | .encGetDevInfo _ => Cmd.selector .getDevInfo
  | .encPrepare _ => Cmd.selector .prepare
  | .encGetBlVer _ => Cmd.selector .getBlVer
  | .encGetAppVer _ => Cmd.selector .getAppVer
  | .encGetHwType _ => Cmd.selector .getHwType
  | .encGetBatSn _ => Cmd.selector .getBatSn
  | .encGetPktLen _ => Cmd.selector .getPktLen
  | .encSetPktLen _ => Cmd.selector .setPktLen
  | .encSetAppLen _ => Cmd.selector .setAppLen
  | .encSetPktSeq _ => Cmd.selector .setPktSeq
  | .encSetPktAddr _ => Cmd.selector .setPktAddr
  | .encVerifyPkt _ => Cmd.selector .verifyPkt
  | .encVerifyAll _ => Cmd.selector .verifyAll
  | .encUpdateCur _ => Cmd.selector .updateCur
  | .encUpdateAll _ => Cmd.selector .updateAll
  | .encGetUpdStatus _ => Cmd.selector .getUpdStatus
  | .decGetDevInfo _ => Cmd.selector .getDevInfo
  | .decPrepare _ => Cmd.selector .prepare
  | .decGetBlVer _ => Cmd.selector .getBlVer
  | .decGetAppVer _ => Cmd.selector .getAppVer
  | .decGetHwType _ => Cmd.selector .getHwType
  | .decGetBatSn _ => Cmd.selector .getBatSn
  | .decGetPktLen _ => Cmd.selector .getPktLen
  | .decSetPktLen _ => Cmd.selector .setPktLen
  | .decSetAppLen _ => Cmd.selector .setAppLen
  | .decSetPktSeq _ => Cmd.selector .setPktSeq
  | .decSetPktAddr _ => Cmd.selector .setPktAddr
  | .decSendPkt _ => Cmd.selector .sendPkt
  | .decVerifyPkt _ => Cmd.selector .verifyPkt
  | .decVerifyAll _ => Cmd.selector .verifyAll
  | .decGetUpdStatus _ => Cmd.selector .getUpdStatus

/-- The other request fields of an instruction. -/
def Instr.operands : Instr → Operands
  | .nop _ r => r
  | .crc16Init _ r => r
  | .crc16Feed _ r => r
  | .crc16Read _ r => r
  | .crc32Init _ r => r
  | .crc32Feed _ r => r
  | .crc32Read _ r => r
  | .frameCmd _ r => r
  | .frameData _ r => r
  | .encGetDevInfo r => r
  | .encPrepare r => r
  | .encGetBlVer r => r
  | .encGetAppVer r => r
  | .encGetHwType r => r
  | .encGetBatSn r => r
  | .encGetPktLen r => r
  | .encSetPktLen r => r
  | .encSetAppLen r => r
  | .encSetPktSeq r => r
  | .encSetPktAddr r => r
  | .encVerifyPkt r => r
  | .encVerifyAll r => r
  | .encUpdateCur r => r
  | .encUpdateAll r => r
  | .encGetUpdStatus r => r
  | .decGetDevInfo r => r
  | .decPrepare r => r
  | .decGetBlVer r => r
  | .decGetAppVer r => r
  | .decGetHwType r => r
  | .decGetBatSn r => r
  | .decGetPktLen r => r
  | .decSetPktLen r => r
  | .decSetAppLen r => r
  | .decSetPktSeq r => r
  | .decSetPktAddr r => r
  | .decSendPkt r => r
  | .decVerifyPkt r => r
  | .decVerifyAll r => r
  | .decGetUpdStatus r => r

/-- A request word from its fields: `P[127:64]`, `W[63:32]`, `B[31:24]`, `A[23:16]`, `K[15:8]`, `OP[7:0]` (R61). -/
def requestWord (op k : Byte) (r : Operands) : Word128 := r.p ++ r.w ++ r.b ++ r.a ++ k ++ op

/-- The request word of an instruction (R61). -/
def encode (i : Instr) : Word128 := requestWord i.op i.k i.operands

/-- The bytes of an instruction's request word, in the order they travel (R43). -/
def encodeBytes (i : Instr) : List Byte := bytesOfWord (encode i)

/-- The instruction in a request word. -/
def decodeWord (q : Word128) : Except DecodeError Instr := decode (bytesOfWord q)

/-- The request word whose low `nbits` bits are those of `w` and whose other bits are 0. -/
def tableWord (nbits w : Nat) : Word128 := BitVec.ofNat 128 (w % 2 ^ nbits)

/-- The instruction the decoder reads from the low `nbits` bits of `w`, every bit above them 0. -/
def decodeTableWord (nbits w : Nat) : Option Instr :=
  match decodeWord (tableWord nbits w) with
  | .ok i => some i
  | .error _ => none

end Sys2Proof
end

