-- ==== Sys2Proof/Machine/Operands.lean ====
section
/-! DEFINITION. The bytes of a payload, multi-byte numbers, and frames built from bytes (00_scope.md R11, R12; 20_memory.md
R41, R44, R46; 30_encoding.md R71, R75, R77). -/

namespace Sys2Proof.Machine

/-- `P[i]`, for `i` from 0 to 7: bits `[8i+7:8i]` of the field (R41). -/
def byteAt (p : Payload) (i : Nat) : Byte := p.extractLsb' (8 * i) 8

/-- The field whose byte `i` is `f i` (R41). -/
def packBytes (f : Nat → Byte) : Payload := f 7 ++ f 6 ++ f 5 ++ f 4 ++ f 3 ++ f 2 ++ f 1 ++ f 0

/-- `P[0] .. P[7]` in order. -/
def payloadBytes (p : Payload) : List Byte := (List.range 8).map (byteAt p)

/-- `P[0] .. P[n-1]`: the bytes a count `n` covers (R67). -/
def countedBytes (r : Operands) : List Byte := (payloadBytes r.p).take r.b.toNat

/-- The 8-byte frame that starts with the given bytes and is padded with 0x00 (R71; `PAD` of 00_scope.md R9). -/
def paddedFrame (t : List Byte) : Payload := packBytes (fun i => t.getD i 0x00)

/-- `LE16(b0, b1)` (R12, R44). -/
def le16 (b0 b1 : Byte) : BitVec 16 := b1 ++ b0

/-- `LE32(b0, b1, b2, b3)` (R12, R44). -/
def le32 (b0 b1 b2 b3 : Byte) : BitVec 32 := b3 ++ b2 ++ b1 ++ b0

/-- `le_bytes_2(v)` (R12, R44). -/
def leBytes2 (v : BitVec 16) : List Byte := [v.extractLsb' 0 8, v.extractLsb' 8 8]

/-- `le_bytes_4(v)` (R12, R44). -/
def leBytes4 (v : BitVec 32) : List Byte :=
  [v.extractLsb' 0 8, v.extractLsb' 8 8, v.extractLsb' 16 8, v.extractLsb' 24 8]

/-- `W[15:0]` (R64, R77). -/
def lowHalf (w : Word32) : BitVec 16 := w.extractLsb' 0 16

/-- `W[31:16]` (R64). -/
def highHalf (w : Word32) : BitVec 16 := w.extractLsb' 16 16

/-- `W[10:0]`: the received identifier of `DEC` (R64, R77). -/
def idField (w : Word32) : CanId := w.extractLsb' 0 11

/-- `W[31:11]` (R64). -/
def aboveId (w : Word32) : BitVec 21 := w.extractLsb' 11 21

/-- `zext_32(v)` (R12). -/
def zext32 {n : Nat} (v : BitVec n) : Word32 := v.setWidth 32

end Sys2Proof.Machine
end

