-- ==== Sys2Proof/Machine/State.lean ====
section
/-! DEFINITION. The state of the block (10_state.md R20), its configuration (R26) and its two ports (30_encoding.md R61,
R62; 20_memory.md R43; 70_reset_and_hazards.md R230, R238), with the statuses it answers with. -/

namespace Sys2Proof.Machine

/-- The status codes `ST` of 30_encoding.md R69. "The block never produces any other `ST` value." -/
inductive Status where
  /-- operation done (R201) -/
  | ok
  /-- the received frame is not a response: discard it, not an error (R202) -/
  | idMismatch
  /-- the response frame fails a check (R203) -/
  | validationFailed
  /-- a command argument is outside its legal set (R204) -/
  | unsupportedParameter
  /-- the request word is not legal (R205) -/
  | illegalRequest
  /-- a CRC accumulator is read or fed before its INIT (R206) -/
  | notInitialised
deriving DecidableEq, Repr

/-- The field codes `FLD` of 30_encoding.md R70. -/
inductive Field where
  | none | length | status | ack | magic | packetLen | crcType | op | k | reserved | range | crc16 | crc32
deriving DecidableEq, Repr

/-- The response word by its fields (30_encoding.md R62). `Response.word` in Machine/Flags.lean lays them out. -/
structure Response where
  st : Status
  fld : Field
  /-- `EXP` -/
  exp : Byte
  /-- `ACT` -/
  act : Byte
  v : Word32
  f : Payload
deriving DecidableEq, Repr

/-- What reaches the block from outside, in order of arrival. -/
inductive PortEvent where
  /-- one byte of a request word, least significant byte first (20_memory.md R43) -/
  | byte (b : Byte)
  /-- reset is asserted and released (70_reset_and_hazards.md R230): one indivisible event, so that no byte arrives between the
  two, where the spec is silent about such bytes (DESIGN CHOICE, log 14) -/
  | reset
deriving DecidableEq, Repr

structure State where
  /-- `s.acc16`: CRC16 running value (R20, R21) -/
  acc16 : BitVec 16
  /-- `s.v16`: `acc16` has been initialised since reset (R20, R22) -/
  v16 : Bool
  /-- `s.acc32`: CRC32 running register, held complemented (R20, R23) -/
  acc32 : BitVec 32
  /-- `s.v32`: `acc32` has been initialised since reset (R20, R22) -/
  v32 : Bool
  /-- `Cfg`: the configuration the block was built with, which no step changes (R26). It stands here because the host's
  step takes the State alone (log 1). -/
  cfg : LegalCfg
  /-- what has been put on the request port and the reset input and not been taken yet, oldest first (R43, R230, R238;
  log 5) -/
  port : List PortEvent
  /-- the response port: the last response emitted since reset, if any (R62; log 7) -/
  rsp : Option Response
  /-- MODEL's own: how many resets the running block has seen; it indexes the free values of R28 (log 4) -/
  resets : Nat
deriving DecidableEq, Repr

/-- Nothing stops the block: every error is a response, and there are no traps (60_exceptions.md R200, R213). So no step
raises a fault and the type has no constructor. -/
inductive Fault where
deriving DecidableEq, Repr

/-- Why there is no next state. -/
inductive Refusal where
  /-- Raised by an arm of exec for an instruction without a meaning. No arm does: every instruction has its meaning.
  Safe. -/
  | notModelled (mnemonic : String)
  /-- Raised by State.build for a configuration that breaks 10_state.md R27: "A model refuses to build a block from an
  illegal `Cfg`". No step raises it. Safe. -/
  | illegalCfg
deriving DecidableEq, Repr

/-- The block right after power-up with configuration `c` (R28, R230): the valid bits are 0. The accumulators are
unspecified there; the model names 0 (DESIGN CHOICE, log 3). Nothing is on either port (DESIGN CHOICE, log 5 and log 7). -/
def State.powerUp (c : LegalCfg) : State where
  acc16 := 0
  v16 := false
  acc32 := 0
  v32 := false
  cfg := c
  port := []
  rsp := Option.none
  resets := 0

/-- A block is built only from a legal configuration (R27, R233; 93_implementation_defined.md I12). -/
def State.build (c : Cfg) : Host.Outcome State Fault Refusal :=
  if h : c.legal = true then .next (State.powerUp ⟨c, h⟩) else .refused .illegalCfg

/-- The block built from the OPEN parameters a builder supplies and the default response lengths it replaces, if any
(42_dfu_commands.md R151; 70_reset_and_hazards.md R233). -/
def State.buildFrom (o : OpenParams) (c : LenChoices) : Host.Outcome State Fault Refusal := State.build (Cfg.ofBuilder o c)

/-- The machine right after reset: the block built with the uninterpreted OPEN parameters of Config and the spec's defaults
(log 2). -/
def State.reset : State := State.powerUp Config.cfg

end Sys2Proof.Machine
end

