-- ==== Sys2Proof/Machine/Flags.lean ====
section
/-! DEFINITION. Status codes. The block has no flags that persist between requests (10_state.md R25): what another machine
keeps in flags, this one says in the response. Here are the codes (30_encoding.md R69, R70), the layout of the response
word (R62), and one response of each kind (60_exceptions.md R200 to R206). -/

namespace Sys2Proof.Machine

/-- `ST` (R69). -/
def Status.code : Status → Byte
  | .ok => 0x00
  | .idMismatch => 0x01
  | .validationFailed => 0x02
  | .unsupportedParameter => 0x03
  | .illegalRequest => 0x04
  | .notInitialised => 0x05

/-- `FLD` (R70). -/
def Field.code : Field → Byte
  | .none => 0x00
  | .length => 0x01
  | .status => 0x02
  | .ack => 0x03
  | .magic => 0x04
  | .packetLen => 0x10
  | .crcType => 0x11
  | .op => 0x20
  | .k => 0x21
  | .reserved => 0x22
  | .range => 0x23
  | .crc16 => 0x30
  | .crc32 => 0x31

/-- The response word: `F[127:64]`, `V[63:32]`, `ACT[31:24]`, `EXP[23:16]`, `FLD[15:8]`, `ST[7:0]` (R62). -/
def Response.word (r : Response) : Word128 := r.f ++ r.v ++ r.act ++ r.exp ++ r.fld.code ++ r.st.code

/-- The response word's bytes in the order they travel (R43). -/
def Response.bytes (r : Response) : List Byte := bytesOfWord r.word

/-- `respond(OK, 0, 0, 0, v, f)` (R13, R201). -/
def okResponse (v : Word32) (f : Payload) : Response := ⟨.ok, .none, 0, 0, v, f⟩

/-- `respond(OK, 0, 0, 0, 0, 0)` (R201). -/
def okDone : Response := okResponse 0 0

/-- `respond(ID_MISMATCH, 0, 0, 0, 0, 0)` (R202). -/
def idMismatchResponse : Response := ⟨.idMismatch, .none, 0, 0, 0, 0⟩

/-- `raise E(FLD, EXP, ACT, V)` as the response it emits: `F` is 0 (R200). -/
def errorResponse (e : Status) (fld : Field) (exp act : Byte) (v : Word32) : Response := ⟨e, fld, exp, act, v, 0⟩

/-- `raise VALIDATION_FAILED` with the byte expected and the byte received (R203). -/
def validationFailed (fld : Field) (exp act : Byte) : Response := errorResponse .validationFailed fld exp act 0

/-- `raise UNSUPPORTED_PARAMETER` with the rejected value (R204). -/
def unsupportedParameter (fld : Field) (v : Word32) : Response := errorResponse .unsupportedParameter fld 0 0 v

/-- `raise ILLEGAL_REQUEST` (R205). -/
def illegalRequest (fld : Field) : Response := errorResponse .illegalRequest fld 0 0 0

/-- `raise NOT_INITIALISED` (R206). -/
def notInitialised (fld : Field) : Response := errorResponse .notInitialised fld 0 0 0

end Sys2Proof.Machine
end

