-- ==== Sys2Proof/Machine/Ops.lean ====
section
/-! DEFINITION. The named operations over the state. Every meaning is a list of checks in the order the spec writes them,
and what happens when all of them pass. Raising an error (60_exceptions.md R200) is this block's form of taking an
exception: the request ends, no state is written, the error is the response. There is no return from it (R214). -/

namespace Sys2Proof.Machine

/-- Emit a response (00_scope.md R13). -/
def State.respond (s : State) (r : Response) : State := { s with rsp := some r }

/-- End the current operation with an error: no state is written, and one response goes out (R200, R209). -/
def State.raise (s : State) (e : Response) : State := s.respond e

/-- Write `s.acc16` (R13). -/
def State.setAcc16 (s : State) (c : BitVec 16) : State := { s with acc16 := c }

/-- Write `s.acc16` and set `s.v16` (R22, R102). -/
def State.initAcc16 (s : State) (c : BitVec 16) : State := { s with acc16 := c, v16 := true }

/-- Write `s.acc32` (R13). -/
def State.setAcc32 (s : State) (r : BitVec 32) : State := { s with acc32 := r }

/-- Write `s.acc32` and set `s.v32` (R22, R115). -/
def State.initAcc32 (s : State) (r : BitVec 32) : State := { s with acc32 := r, v32 := true }

/-- One check of an operation: whether it fails, and the response when it does. -/
abbrev Check := Bool × Response

/-- The response of the first check that fails (R208: exactly one response, for the first failing check). -/
def firstFailing : List Check → Option Response
  | [] => none
  | (failed, e) :: rest => if failed then some e else firstFailing rest

/-- Run the checks in order: the first that fails is raised, and if none fails the outcome is `done`. -/
def State.answer (s : State) (checks : List Check) (done : State) : State :=
  match firstFailing checks with
  | some e => s.raise e
  | none => done

/-- The check that fields marked "0" are 0 (R66). -/
def reservedCheck (nonzero : Bool) : Check := (nonzero, illegalRequest .reserved)

/-- The check that a byte count is at most 8 (R67). -/
def rangeCheck (b : Byte) : Check := (decide (8 < b.toNat), illegalRequest .range)

/-- The check that a CRC width has been initialised (R22, R206). -/
def initialisedCheck (valid : Bool) (fld : Field) : Check := (!valid, notInitialised fld)

/-- Reset of a running block (70_reset_and_hazards.md R230, R231): the valid bits become 0, the accumulators take free
values (log 4), the configuration stays, and what arrives after the reset is `rest`. -/
def State.afterReset (s : State) (rest : List PortEvent) : State where
  acc16 := Config.freeAcc16 s.resets
  v16 := false
  acc32 := Config.freeAcc32 s.resets
  v32 := false
  cfg := s.cfg
  port := rest
  rsp := none
  resets := s.resets + 1

end Sys2Proof.Machine
end

