-- ==== Sys2Proof/Machine/Crc.lean ====
section
/-! DEFINITION. The CRC unit (40_crc.md). -/

namespace Sys2Proof.Machine

/-- One turn of the loop of R101 and R114: shift right, and apply the reflected polynomial if the bit shifted out is 1. -/
def crcShift {n : Nat} (poly c : BitVec n) : BitVec n :=
  if c.getLsbD 0 then (c >>> 1) ^^^ poly else c >>> 1

/-- `k` turns of the loop. -/
def crcShifts {n : Nat} (poly : BitVec n) : Nat → BitVec n → BitVec n
  | 0, c => c
  | k + 1, c => crcShifts poly k (crcShift poly c)

/-- The byte step of R101 and R114: exclusive-or the byte into the low end, then eight turns. The loop is the spec's own,
supplied from general knowledge (93_implementation_defined.md G1, G2; log 10). -/
def crcStep {n : Nat} (poly c : BitVec n) (b : Byte) : BitVec n := crcShifts poly 8 (c ^^^ b.setWidth n)

/-- `POLY16` (00_scope.md R9). -/
def poly16 : BitVec 16 := 0xA001

/-- `POLY32` (00_scope.md R9). -/
def poly32 : BitVec 32 := 0xEDB88320

/-- `crc16_step` (R101). -/
def crc16Step (c : BitVec 16) (b : Byte) : BitVec 16 := crcStep poly16 c b

/-- `crc32_step` (R114). -/
def crc32Step (r : BitVec 32) (b : Byte) : BitVec 32 := crcStep poly32 r b

/-- Run bytes through the CRC16 accumulator, in order (R103). -/
def crc16Run (c : BitVec 16) (bs : List Byte) : BitVec 16 := bs.foldl crc16Step c

/-- Run bytes through the CRC32 register, in order (R116). -/
def crc32Run (r : BitVec 32) (bs : List Byte) : BitVec 32 := bs.foldl crc32Step r

/-- The source's function `crc16(buffer, len, seed)`: no final inversion (R100, R105, R112). -/
def crc16 (buf : List Byte) (seed : BitVec 16) : BitVec 16 := crc16Run seed buf

/-- The source's function `crc32(buffer, len, seed)`: the seed complemented on entry and the result on exit (R113, R124). -/
def crc32 (buf : List Byte) (seed : BitVec 32) : BitVec 32 := ~~~ crc32Run (~~~ seed) buf

/-- `SEED16_PROTOCOL` (00_scope.md R9, R110): the seed the protocol always uses. The block does not enforce it. -/
def seed16Protocol : BitVec 16 := 0xFFFF

/-- R102 -/
def execCrc16Init (k : Byte) (r : Operands) (s : State) : Host.Outcome State Fault Refusal :=
  .next (s.answer
    [reservedCheck (k != 0 || r.a != 0 || r.b != 0 || highHalf r.w != 0 || r.p != 0)]
    ((s.initAcc16 (lowHalf r.w)).respond okDone))

/-- R103 -/
def execCrc16Feed (k : Byte) (r : Operands) (s : State) : Host.Outcome State Fault Refusal :=
  .next (s.answer
    [reservedCheck (k != 0 || r.a != 0 || r.w != 0),
     rangeCheck r.b,
     initialisedCheck s.v16 .crc16]
    ((s.setAcc16 (crc16Run s.acc16 (countedBytes r))).respond okDone))

/-- R104 -/
def execCrc16Read (k : Byte) (r : Operands) (s : State) : Host.Outcome State Fault Refusal :=
  .next (s.answer
    [reservedCheck (k != 0 || r.a != 0 || r.b != 0 || r.w != 0 || r.p != 0),
     initialisedCheck s.v16 .crc16]
    (s.respond (okResponse (zext32 s.acc16) 0)))

/-- R115 -/
def execCrc32Init (k : Byte) (r : Operands) (s : State) : Host.Outcome State Fault Refusal :=
  .next (s.answer
    [reservedCheck (k != 0 || r.a != 0 || r.b != 0 || r.p != 0)]
    ((s.initAcc32 (~~~ r.w)).respond okDone))

/-- R116 -/
def execCrc32Feed (k : Byte) (r : Operands) (s : State) : Host.Outcome State Fault Refusal :=
  .next (s.answer
    [reservedCheck (k != 0 || r.a != 0 || r.w != 0),
     rangeCheck r.b,
     initialisedCheck s.v32 .crc32]
    ((s.setAcc32 (crc32Run s.acc32 (countedBytes r))).respond okDone))

/-- R117 -/
def execCrc32Read (k : Byte) (r : Operands) (s : State) : Host.Outcome State Fault Refusal :=
  .next (s.answer
    [reservedCheck (k != 0 || r.a != 0 || r.b != 0 || r.w != 0 || r.p != 0),
     initialisedCheck s.v32 .crc32]
    (s.respond (okResponse (~~~ s.acc32) 0)))

end Sys2Proof.Machine
end

