-- ==== Sys2Proof/Machine/Dec.lean ====
section
/-! DEFINITION. The response validator `DEC` (41_frame_codec.md R134 to R142) and its 15 commands (42_dfu_commands.md R151,
R154 to R186). -/

namespace Sys2Proof.Machine

/-- The command check of a record `E(k)` (R136). -/
inductive RspCheck where
  | none
  /-- a single expected acknowledgement byte at offset 3 (R139) -/
  | ack (code : Byte)
  /-- 0xCC at offset 3 and 0xFE at offset 4 (R140) -/
  | magic
deriving DecidableEq, Repr

/-- The checks a command check stands for, in order (R139, R140). -/
def RspCheck.checks (c : RspCheck) (p : Payload) : List Check :=
  match c with
  | .none => []
  | .ack code => [(byteAt p 3 != code, validationFailed .ack code (byteAt p 3))]
  | .magic =>
    [(byteAt p 3 != 0xCC, validationFailed .magic 0xCC (byteAt p 3)),
     (byteAt p 4 != 0xFE, validationFailed .magic 0xFE (byteAt p 4))]

/-- The expected status byte of the response to `c`: `(Cfg.OPC[k] + 0x40) mod 2^8` (30_encoding.md R74; R138). -/
def expectedStatus (cfg : Cfg) (c : RspCmd) : Byte := cfg.opcOf c.cmd + 0x40

/-- The extracted data bytes: `data0 .. data(L-3)`, then 0x00 (R142). -/
def dataBytes (len : Byte) (p : Payload) : Payload :=
  packBytes (fun i => if i < len.toNat - 2 then byteAt p (3 + i) else 0x00)

/-- The generic validator of R135: reserved fields, identifier, length, status, then the command check; the extraction only
when all of them pass. -/
def decResponse (c : RspCmd) (check : RspCheck) (extract : Payload → Word32) (r : Operands) (s : State) : State :=
  let len := s.cfg.raw.rspLenOf c
  let status := expectedStatus s.cfg.raw c
  s.answer
    (reservedCheck (r.a != 0 || r.b != 0 || aboveId r.w != 0)
     :: (idField r.w != s.cfg.raw.rspId, idMismatchResponse)
     :: (byteAt r.p 0 != len, validationFailed .length len (byteAt r.p 0))
     :: (byteAt r.p 2 != status, validationFailed .status status (byteAt r.p 2))
     :: check.checks r.p)
    (s.respond (okResponse (extract r.p) (dataBytes len r.p)))

/-- `extract = 0` (R151). -/
def extractNothing (_ : Payload) : Word32 := 0

/-- `zext_32(p[i])` (R151). -/
def extractByte (i : Nat) (p : Payload) : Word32 := zext32 (byteAt p i)

/-- `zext_32(LE16(p[i], p[i+1]))` (R151). -/
def extractHalf (i : Nat) (p : Payload) : Word32 := zext32 (le16 (byteAt p i) (byteAt p (i + 1)))

/-- `LE32(p[i], p[i+1], p[i+2], p[i+3])` (R151). -/
def extractWord (i : Nat) (p : Payload) : Word32 :=
  le32 (byteAt p i) (byteAt p (i + 1)) (byteAt p (i + 2)) (byteAt p (i + 3))

/-- R154 -/
def execDecGetDevInfo (r : Operands) (s : State) : Host.Outcome State Fault Refusal :=
  .next (decResponse .getDevInfo .none extractNothing r s)

/-- R156: V is the cell count at offset 5 -/
def execDecPrepare (r : Operands) (s : State) : Host.Outcome State Fault Refusal :=
  .next (decResponse .prepare .magic (extractByte 5) r s)

/-- R158 -/
def execDecGetBlVer (r : Operands) (s : State) : Host.Outcome State Fault Refusal :=
  .next (decResponse .getBlVer .none extractNothing r s)

/-- R160 -/
def execDecGetAppVer (r : Operands) (s : State) : Host.Outcome State Fault Refusal :=
  .next (decResponse .getAppVer .none extractNothing r s)

/-- R162 -/
def execDecGetHwType (r : Operands) (s : State) : Host.Outcome State Fault Refusal :=
  .next (decResponse .getHwType .none extractNothing r s)

/-- R164: V is the per-frame sequence byte -/
def execDecGetBatSn (r : Operands) (s : State) : Host.Outcome State Fault Refusal :=
  .next (decResponse .getBatSn .none (extractByte 3) r s)

/-- R166: V is the packet length -/
def execDecGetPktLen (r : Operands) (s : State) : Host.Outcome State Fault Refusal :=
  .next (decResponse .getPktLen .none (extractHalf 3) r s)

/-- R168: the ack is `SET_PKTLEN_OK` -/
def execDecSetPktLen (r : Operands) (s : State) : Host.Outcome State Fault Refusal :=
  .next (decResponse .setPktLen (.ack 0xA1) extractNothing r s)

/-- R170: V is the echoed file length -/
def execDecSetAppLen (r : Operands) (s : State) : Host.Outcome State Fault Refusal :=
  .next (decResponse .setAppLen .none (extractWord 3) r s)

/-- R172: the ack is `SET_PKTNUM_OK`, the echo at offsets 4 and 5 -/
def execDecSetPktSeq (r : Operands) (s : State) : Host.Outcome State Fault Refusal :=
  .next (decResponse .setPktSeq (.ack 0xA2) (extractHalf 4) r s)

/-- R174 -/
def execDecSetPktAddr (r : Operands) (s : State) : Host.Outcome State Fault Refusal :=
  .next (decResponse .setPktAddr .none extractNothing r s)

/-- R176: the ack of the optional per-packet mode is `XFER_DATA_OK` -/
def execDecSendPkt (r : Operands) (s : State) : Host.Outcome State Fault Refusal :=
  .next (decResponse .sendPkt (.ack 0xA2) extractNothing r s)

/-- R178: the ack is `VERIFY_DATA_OK` -/
def execDecVerifyPkt (r : Operands) (s : State) : Host.Outcome State Fault Refusal :=
  .next (decResponse .verifyPkt (.ack 0xA3) extractNothing r s)

/-- R180: the ack is `VERIFY_ALL_OK` -/
def execDecVerifyAll (r : Operands) (s : State) : Host.Outcome State Fault Refusal :=
  .next (decResponse .verifyAll (.ack 0xA4) extractNothing r s)

/-- R186: every status code is accepted and returned in V -/
def execDecGetUpdStatus (r : Operands) (s : State) : Host.Outcome State Fault Refusal :=
  .next (decResponse .getUpdStatus .none (extractByte 3) r s)

end Sys2Proof.Machine
end

