-- ==== Sys2Proof/Machine/Enc.lean ====
section
/-! DEFINITION. The command encoder `ENC` (41_frame_codec.md R143) and its 16 commands (42_dfu_commands.md R152 to R185). -/

namespace Sys2Proof.Machine

/-- The command frame of R71 and R143: `[2 + n, addr, opcode] ++ d` and 0x00 padding, where `n` is the number of data
bytes (R72). -/
def commandFrame (addr opcode : Byte) (d : List Byte) : Payload :=
  paddedFrame (BitVec.ofNat 8 (2 + d.length) :: addr :: opcode :: d)

/-- The generic encoder of R143: `P` must be 0, then the command's own checks, then its frame on `Cfg.CMD_ID`. -/
def encCommand (c : Cmd) (checks : List Check) (d : List Byte) (r : Operands) (s : State) : State :=
  s.answer (reservedCheck (r.p != 0) :: checks)
    (s.respond (okResponse (zext32 s.cfg.raw.cmdId) (commandFrame r.a (s.cfg.raw.opcOf c) d)))

/-- `B` and `W` are reserved: the commands without an argument (R152). -/
def noArgument (r : Operands) : Check := reservedCheck (r.b != 0 || r.w != 0)

/-- `B` is reserved and the argument is all of `W` (R152). -/
def wordArgument (r : Operands) : Check := reservedCheck (r.b != 0)

/-- `B` and `W[31:16]` are reserved and the argument is `W[15:0]` (R152). -/
def halfArgument (r : Operands) : Check := reservedCheck (r.b != 0 || highHalf r.w != 0)

/-- `PACKET_LENS` (00_scope.md R9). -/
def packetLens : List Word32 := [8, 16, 32, 64, 128, 256, 512]

/-- R153 -/
def execEncGetDevInfo (r : Operands) (s : State) : Host.Outcome State Fault Refusal :=
  .next (encCommand .getDevInfo [noArgument r] [] r s)

/-- R155 -/
def execEncPrepare (r : Operands) (s : State) : Host.Outcome State Fault Refusal :=
  .next (encCommand .prepare [noArgument r] [] r s)

/-- R157 -/
def execEncGetBlVer (r : Operands) (s : State) : Host.Outcome State Fault Refusal :=
  .next (encCommand .getBlVer [noArgument r] [] r s)

/-- R159 -/
def execEncGetAppVer (r : Operands) (s : State) : Host.Outcome State Fault Refusal :=
  .next (encCommand .getAppVer [noArgument r] [] r s)

/-- R161 -/
def execEncGetHwType (r : Operands) (s : State) : Host.Outcome State Fault Refusal :=
  .next (encCommand .getHwType [noArgument r] [] r s)

/-- R163 -/
def execEncGetBatSn (r : Operands) (s : State) : Host.Outcome State Fault Refusal :=
  .next (encCommand .getBatSn [noArgument r] [] r s)

/-- R165 -/
def execEncGetPktLen (r : Operands) (s : State) : Host.Outcome State Fault Refusal :=
  .next (encCommand .getPktLen [noArgument r] [] r s)

/-- R167: all 32 bits of `W` are compared (92_eei_decisions.md D47) -/
def execEncSetPktLen (r : Operands) (s : State) : Host.Outcome State Fault Refusal :=
  .next (encCommand .setPktLen
    [wordArgument r, (!packetLens.contains r.w, unsupportedParameter .packetLen r.w)]
    (leBytes2 (lowHalf r.w)) r s)

/-- R169 -/
def execEncSetAppLen (r : Operands) (s : State) : Host.Outcome State Fault Refusal :=
  .next (encCommand .setAppLen [wordArgument r] (leBytes4 r.w) r s)

/-- R171 -/
def execEncSetPktSeq (r : Operands) (s : State) : Host.Outcome State Fault Refusal :=
  .next (encCommand .setPktSeq [halfArgument r] (leBytes2 (lowHalf r.w)) r s)

/-- R173 -/
def execEncSetPktAddr (r : Operands) (s : State) : Host.Outcome State Fault Refusal :=
  .next (encCommand .setPktAddr [wordArgument r] (leBytes4 r.w) r s)

/-- R177 -/
def execEncVerifyPkt (r : Operands) (s : State) : Host.Outcome State Fault Refusal :=
  .next (encCommand .verifyPkt [halfArgument r] (leBytes2 (lowHalf r.w)) r s)

/-- R179: the CRC type is checked before the reserved bits of `W` (90_conflicts.md C12); types are those of R78 -/
def execEncVerifyAll (r : Operands) (s : State) : Host.Outcome State Fault Refusal :=
  .next (encCommand .verifyAll
    [(r.b != 0 && r.b != 1, unsupportedParameter .crcType (zext32 r.b)),
     reservedCheck (r.b == 0 && highHalf r.w != 0)]
    (if r.b = 0 then 0x00 :: leBytes2 (lowHalf r.w) else 0x01 :: leBytes4 r.w) r s)

/-- R181 -/
def execEncUpdateCur (r : Operands) (s : State) : Host.Outcome State Fault Refusal :=
  .next (encCommand .updateCur [noArgument r] [] r s)

/-- R183: the address byte comes from `A` as for every command (92_eei_decisions.md D36) -/
def execEncUpdateAll (r : Operands) (s : State) : Host.Outcome State Fault Refusal :=
  .next (encCommand .updateAll [noArgument r] [] r s)

/-- R185 -/
def execEncGetUpdStatus (r : Operands) (s : State) : Host.Outcome State Fault Refusal :=
  .next (encCommand .getUpdStatus [noArgument r] [] r s)

end Sys2Proof.Machine
end

