-- ==== Sys2Proof/Machine/Frame.lean ====
section
/-! DEFINITION. The operations of the frame codec that need no command (41_frame_codec.md R131 to R133). -/

namespace Sys2Proof.Machine

/-- R131 -/
def execNop (k : Byte) (r : Operands) (s : State) : Host.Outcome State Fault Refusal :=
  .next (s.answer
    [reservedCheck (k != 0 || r.a != 0 || r.b != 0 || r.w != 0 || r.p != 0)]
    (s.respond okDone))

/-- The frame of R132: the template's first `n` bytes, 0x00 after them, and then byte 1 replaced by the address, whatever
the template's length (92_eei_decisions.md D49). -/
def templateFrame (addr : Byte) (n : Nat) (t : Payload) : Payload :=
  packBytes (fun i => if i = 1 then addr else if i < n then byteAt t i else 0x00)

/-- R132 -/
def execFrameCmd (k : Byte) (r : Operands) (s : State) : Host.Outcome State Fault Refusal :=
  .next (s.answer
    [reservedCheck (k != 0 || r.w != 0),
     rangeCheck r.b]
    (s.respond (okResponse (zext32 s.cfg.raw.cmdId) (templateFrame r.a r.b.toNat r.p))))

/-- R133: the 8 request bytes unchanged. -/
def execFrameData (k : Byte) (r : Operands) (s : State) : Host.Outcome State Fault Refusal :=
  .next (s.answer
    [reservedCheck (k != 0 || r.a != 0 || r.b != 0 || r.w != 0)]
    (s.respond (okResponse (zext32 s.cfg.raw.datId) r.p)))

end Sys2Proof.Machine
end

