-- ==== Sys2Proof/Machine/Dispatch.lean ====
section
/-! DEFINITION. What each instruction does: one arm per constructor, each a call of that instruction's meaning. -/

namespace Sys2Proof.Machine

def exec (i : Instr) (s : State) : Host.Outcome State Fault Refusal :=
  match i with
  | .nop k r => Sys2Proof.Machine.execNop k r s
  | .crc16Init k r => Sys2Proof.Machine.execCrc16Init k r s
  | .crc16Feed k r => Sys2Proof.Machine.execCrc16Feed k r s
  | .crc16Read k r => Sys2Proof.Machine.execCrc16Read k r s
  | .crc32Init k r => Sys2Proof.Machine.execCrc32Init k r s
  | .crc32Feed k r => Sys2Proof.Machine.execCrc32Feed k r s
  | .crc32Read k r => Sys2Proof.Machine.execCrc32Read k r s
  | .frameCmd k r => Sys2Proof.Machine.execFrameCmd k r s
  | .frameData k r => Sys2Proof.Machine.execFrameData k r s
  | .encGetDevInfo r => Sys2Proof.Machine.execEncGetDevInfo r s
  | .encPrepare r => Sys2Proof.Machine.execEncPrepare r s
  | .encGetBlVer r => Sys2Proof.Machine.execEncGetBlVer r s
  | .encGetAppVer r => Sys2Proof.Machine.execEncGetAppVer r s
  | .encGetHwType r => Sys2Proof.Machine.execEncGetHwType r s
  | .encGetBatSn r => Sys2Proof.Machine.execEncGetBatSn r s
  | .encGetPktLen r => Sys2Proof.Machine.execEncGetPktLen r s
  | .encSetPktLen r => Sys2Proof.Machine.execEncSetPktLen r s
  | .encSetAppLen r => Sys2Proof.Machine.execEncSetAppLen r s
  | .encSetPktSeq r => Sys2Proof.Machine.execEncSetPktSeq r s
  | .encSetPktAddr r => Sys2Proof.Machine.execEncSetPktAddr r s
  | .encVerifyPkt r => Sys2Proof.Machine.execEncVerifyPkt r s
  | .encVerifyAll r => Sys2Proof.Machine.execEncVerifyAll r s
  | .encUpdateCur r => Sys2Proof.Machine.execEncUpdateCur r s
  | .encUpdateAll r => Sys2Proof.Machine.execEncUpdateAll r s
  | .encGetUpdStatus r => Sys2Proof.Machine.execEncGetUpdStatus r s
  | .decGetDevInfo r => Sys2Proof.Machine.execDecGetDevInfo r s
  | .decPrepare r => Sys2Proof.Machine.execDecPrepare r s
  | .decGetBlVer r => Sys2Proof.Machine.execDecGetBlVer r s
  | .decGetAppVer r => Sys2Proof.Machine.execDecGetAppVer r s
  | .decGetHwType r => Sys2Proof.Machine.execDecGetHwType r s
  | .decGetBatSn r => Sys2Proof.Machine.execDecGetBatSn r s
  | .decGetPktLen r => Sys2Proof.Machine.execDecGetPktLen r s
  | .decSetPktLen r => Sys2Proof.Machine.execDecSetPktLen r s
  | .decSetAppLen r => Sys2Proof.Machine.execDecSetAppLen r s
  | .decSetPktSeq r => Sys2Proof.Machine.execDecSetPktSeq r s
  | .decSetPktAddr r => Sys2Proof.Machine.execDecSetPktAddr r s
  | .decSendPkt r => Sys2Proof.Machine.execDecSendPkt r s
  | .decVerifyPkt r => Sys2Proof.Machine.execDecVerifyPkt r s
  | .decVerifyAll r => Sys2Proof.Machine.execDecVerifyAll r s
  | .decGetUpdStatus r => Sys2Proof.Machine.execDecGetUpdStatus r s

end Sys2Proof.Machine
end

