-- ==== Sys2Proof/Machine/Fetch.lean ====
section
/-! DEFINITION. Taking the next request from the port. An operation begins only once all 16 bytes of its word have arrived
(20_memory.md R43), requests are taken in the order they were offered (70_reset_and_hazards.md R238), and a request still
in transfer when reset is asserted is discarded (R230). A whole request held off at that moment is the model's choice (log 13). -/

namespace Sys2Proof.Machine

/-- What the port gives the block next. -/
inductive Taken where
  /-- no complete request has arrived -/
  | waiting
  /-- reset was asserted; a request partly transferred before it is gone -/
  | reset (rest : List PortEvent)
  /-- the bytes of one request -/
  | request (bytes : List Byte) (rest : List PortEvent)
deriving DecidableEq, Repr

/-- Collect `need` more bytes of a request after those `got` so far. A reset met before the last of them discards them (R230).
A request whose bytes all stand before a reset is taken and performed before that reset, also where it was held off (R238)
when reset was asserted: the spec does not say what becomes of such a request (DESIGN CHOICE, log 13). The first byte behind a
reset is read as `OP` of a new request, also where it is the tail of the request that the reset cut off: the spec does not say
how such a tail is read (DESIGN CHOICE, log 14). -/
def takeBytes : (need : Nat) → (got : List Byte) → List PortEvent → Taken
  | 0, got, rest => .request got rest
  | _ + 1, _, [] => .waiting
  | _ + 1, _, .reset :: rest => .reset rest
  | n + 1, got, .byte b :: rest => takeBytes n (got ++ [b]) rest

/-- The next request on the port: 16 bytes (R43, R60). -/
def takeRequest (port : List PortEvent) : Taken := takeBytes 16 [] port

/-- The port events of a sequence of bytes. -/
def byteEvents (bs : List Byte) : List PortEvent := bs.map PortEvent.byte

/-- The answer to a word that no row of the opcode table matches (30_encoding.md R65, R68). The bytes
taken from the port are always one whole word, so `notOneWord` does not arise there. -/
def decodeErrorResponse : DecodeError → Response
  | .notOneWord => illegalRequest .op
  | .illegalOp => illegalRequest .op
  | .illegalK => illegalRequest .k

end Sys2Proof.Machine
end

