-- ==== Sys2Proof/Machine/Step.lean ====
section
/-! DEFINITION. One step of the block: one request taken whole from the port, performed, and answered (00_scope.md R19,
20_memory.md R47, 70_reset_and_hazards.md R237). -/

namespace Sys2Proof.Machine

/-- One step: with no complete request on the port the block waits (log 6); a reset is taken between requests (R230); a
request is decoded and performed, and a word that selects no operation is answered `ILLEGAL_REQUEST` (R65, R68). -/
def step (s : State) : Host.Outcome State Fault Refusal :=
  match takeRequest s.port with
  | .waiting => .next s
  | .reset rest => .next (s.afterReset rest)
  | .request bytes rest =>
    match decode bytes with
    | .ok i => exec i { s with port := rest }
    | .error e => .next (State.raise { s with port := rest } (decodeErrorResponse e))

/-- `s` with the request whose low `nbits` bits are those of `w` (every bit above them 0) offered first on the request
port, all 16 bytes of it, so that the next step takes and performs it (log 5). -/
def State.withFetchWord (s : State) (nbits w : Nat) : State :=
  { s with port := byteEvents (bytesOfWord (tableWord nbits w)) ++ s.port }

end Sys2Proof.Machine
end

