-- ==== Sys2Proof/Machine/Assembler.lean ====
section
/-! DEFINITION. The assembly syntax and the pseudo-operations of 30_encoding.md R79 and R80, as functions that give the
requests each line stands for. Fields not named are 0. -/

namespace Sys2Proof.Asm

open Sys2Proof.Machine

/-- No field but `OP` (and `K`) is named. -/
def noFields : Operands := ⟨0, 0, 0, 0⟩

/-- `b0, ..., b(n-1)`: `B=n, P[i]=bi`. -/
def counted (addr : Byte) (bs : List Byte) : Operands := ⟨addr, BitVec.ofNat 8 bs.length, 0, paddedFrame bs⟩

/-- `nop` -/
def nop : Instr := .nop 0 noFields

/-- `crc16.init S` -/
def crc16Init (seed : Word32) : Instr := .crc16Init 0 ⟨0, 0, seed, 0⟩

/-- `crc16.feed b0, ..., b(n-1)` (0 to 8 bytes) -/
def crc16Feed (bs : List Byte) : Instr := .crc16Feed 0 (counted 0 bs)

/-- `crc16.read` -/
def crc16Read : Instr := .crc16Read 0 noFields

/-- `crc32.init S` -/
def crc32Init (seed : Word32) : Instr := .crc32Init 0 ⟨0, 0, seed, 0⟩

/-- `crc32.feed b0, ..., b(n-1)` (0 to 8 bytes) -/
def crc32Feed (bs : List Byte) : Instr := .crc32Feed 0 (counted 0 bs)

/-- `crc32.read` -/
def crc32Read : Instr := .crc32Read 0 noFields

/-- `frame.cmd addr, t0, ..., t(n-1)` (0 to 8 bytes) -/
def frameCmd (addr : Byte) (t : List Byte) : Instr := .frameCmd 0 (counted addr t)

/-- `frame.data b0, ..., b7` (exactly 8 bytes) -/
def frameData (bs : List Byte) : Instr := .frameData 0 ⟨0, 0, 0, paddedFrame bs⟩

/-- The fields of `enc.<name> addr` and `enc.<name> addr, w`. -/
def encFields (addr : Byte) (w : Word32) : Operands := ⟨addr, 0, w, 0⟩

/-- `enc.verify_all addr, type, crc` -/
def encVerifyAll (addr type : Byte) (crc : Word32) : Instr := .encVerifyAll ⟨addr, type, crc, 0⟩

/-- The fields of `dec.<name> id, p0, ..., p7`. -/
def decFields (id : Word32) (p : List Byte) : Operands := ⟨0, 0, id, paddedFrame p⟩

/-- "chunks of 8": bytes `0..7`, then `8..15`, and so on, the last chunk holding the remaining 1 to 8 bytes (R80). -/
def chunksOf8 : List Byte → List (List Byte)
  | b0 :: b1 :: b2 :: b3 :: b4 :: b5 :: b6 :: b7 :: rest => [b0, b1, b2, b3, b4, b5, b6, b7] :: chunksOf8 rest
  | [] => []
  | short => [short]

/-- `crc16.feedall b0, ..., b(n-1)` (R80) -/
def crc16FeedAll (bs : List Byte) : List Instr := (chunksOf8 bs).map crc16Feed

/-- `crc32.feedall b0, ..., b(n-1)` (R80) -/
def crc32FeedAll (bs : List Byte) : List Instr := (chunksOf8 bs).map crc32Feed

/-- `crc16.buf S, b0, ..., b(n-1)` (R80) -/
def crc16Buf (seed : Word32) (bs : List Byte) : List Instr := crc16Init seed :: crc16FeedAll bs ++ [crc16Read]

/-- `crc32.buf S, b0, ..., b(n-1)` (R80) -/
def crc32Buf (seed : Word32) (bs : List Byte) : List Instr := crc32Init seed :: crc32FeedAll bs ++ [crc32Read]

/-- `send.packet b0, ..., b(L-1)` (R75, R80) -/
def sendPacket (bs : List Byte) : List Instr := (chunksOf8 bs).map frameData

/-- The port events that offer a sequence of requests, in order (R43, R238). -/
def offered (is : List Instr) : List PortEvent := is.flatMap (fun i => byteEvents (encodeBytes i))

end Sys2Proof.Asm
end

