-- ==== Sys2Proof/Safety.lean ====
section
/-! DEFINITION. The terms claims use: what a response of each status looks like (60_exceptions.md R200 to R206), what it means
that two states differ only where no request can observe it (10_state.md R22, R28), and how the caller reads an update
status (42_dfu_commands.md R187). -/

namespace Sys2Proof.Machine

/-- A response has the form its status fixes (R200 to R206): only `OK` carries a frame, only `VALIDATION_FAILED` sets `EXP` and
`ACT`, only `OK` and `UNSUPPORTED_PARAMETER` set `V`, and `FLD` is one of the status's own codes. -/
def Response.wellShaped (r : Response) : Prop :=
  match r.st with
  | .ok => r.fld = .none ∧ r.exp = 0 ∧ r.act = 0
  | .idMismatch => r.fld = .none ∧ r.exp = 0 ∧ r.act = 0 ∧ r.v = 0 ∧ r.f = 0
  | .validationFailed =>
    (r.fld = .length ∨ r.fld = .status ∨ r.fld = .ack ∨ r.fld = .magic) ∧ r.exp ≠ r.act ∧ r.v = 0 ∧ r.f = 0
  | .unsupportedParameter => (r.fld = .packetLen ∨ r.fld = .crcType) ∧ r.exp = 0 ∧ r.act = 0 ∧ r.f = 0
  | .illegalRequest =>
    (r.fld = .op ∨ r.fld = .k ∨ r.fld = .reserved ∨ r.fld = .range) ∧ r.exp = 0 ∧ r.act = 0 ∧ r.v = 0 ∧ r.f = 0
  | .notInitialised => (r.fld = .crc16 ∨ r.fld = .crc32) ∧ r.exp = 0 ∧ r.act = 0 ∧ r.v = 0 ∧ r.f = 0

/-- The invariant of the response port: whatever stands on it has the form its status fixes. -/
def State.PortWellShaped (s : State) : Prop := ∀ r, s.rsp = some r → r.wellShaped

/-- The four items of block state agree (R20). -/
def State.SameBlock (s t : State) : Prop :=
  s.acc16 = t.acc16 ∧ s.v16 = t.v16 ∧ s.acc32 = t.acc32 ∧ s.v32 = t.v32

/-- Two states that differ at most in an accumulator whose valid bit is 0: what R22 and R28 call unobservable. -/
def State.SameObservable (s t : State) : Prop :=
  s.v16 = t.v16 ∧ s.v32 = t.v32 ∧ s.cfg = t.cfg ∧ s.port = t.port ∧ s.rsp = t.rsp ∧ s.resets = t.resets
  ∧ (s.v16 = true → s.acc16 = t.acc16) ∧ (s.v32 = true → s.acc32 = t.acc32)

/-- How the caller, not the block, reads an update status code (R187). -/
inductive UpdateVerdict where
  | success
  | inProgress
  | failed (code : Word32)
deriving DecidableEq, Repr

/-- R187: 0xAA is success, 0x0C and 0x0D are in progress, anything else is a failure with that code. -/
def updateVerdict (v : Word32) : UpdateVerdict :=
  if v = 0xAA then .success else if v = 0x0C ∨ v = 0x0D then .inProgress else .failed v

/-- The block answers `OK` to the instruction. -/
def Accepts (i : Instr) (s : State) : Prop := ∃ t x, exec i s = .next t ∧ t.rsp = some x ∧ x.st = .ok

/-- A row of the response table of 42_dfu_commands.md R151: the instruction, the command, its check, and where in the payload
its value `V` stands, as a bit position and a width (a width of 0 for "extract = 0"). -/
structure DecRow where
  make : Operands → Instr
  cmd : RspCmd
  check : RspCheck
  valueAt : Nat
  valueBits : Nat

/-- The response table of R151, its values placed by the byte order of 20_memory.md R45 and R46. -/
def decRows : List DecRow :=
  [⟨.decGetDevInfo, .getDevInfo, .none, 0, 0⟩,
   ⟨.decPrepare, .prepare, .magic, 40, 8⟩,
   ⟨.decGetBlVer, .getBlVer, .none, 0, 0⟩,
   ⟨.decGetAppVer, .getAppVer, .none, 0, 0⟩,
   ⟨.decGetHwType, .getHwType, .none, 0, 0⟩,
   ⟨.decGetBatSn, .getBatSn, .none, 24, 8⟩,
   ⟨.decGetPktLen, .getPktLen, .none, 24, 16⟩,
   ⟨.decSetPktLen, .setPktLen, .ack 0xA1, 0, 0⟩,
   ⟨.decSetAppLen, .setAppLen, .none, 24, 32⟩,
   ⟨.decSetPktSeq, .setPktSeq, .ack 0xA2, 32, 16⟩,
   ⟨.decSetPktAddr, .setPktAddr, .none, 0, 0⟩,
   ⟨.decSendPkt, .sendPkt, .ack 0xA2, 0, 0⟩,
   ⟨.decVerifyPkt, .verifyPkt, .ack 0xA3, 0, 0⟩,
   ⟨.decVerifyAll, .verifyAll, .ack 0xA4, 0, 0⟩,
   ⟨.decGetUpdStatus, .getUpdStatus, .none, 24, 8⟩]

/-- The payload bytes a validator reads (R137 to R140): length and status always, then those of the command check. -/
def RspCheck.checkedBytes : RspCheck → List Nat
  | .none => [0, 2]
  | .ack _ => [0, 2, 3]
  | .magic => [0, 2, 3, 4]

/-- What the command check asks of a payload (R136, R139, R140). -/
def RspCheck.Holds (c : RspCheck) (p : Payload) : Prop :=
  match c with
  | .none => True
  | .ack code => byteAt p 3 = code
  | .magic => byteAt p 3 = 0xCC ∧ byteAt p 4 = 0xFE

/-- The commands of `ENC` in the order of their selectors (30_encoding.md R68); SEND_PKT has no row. -/
def encBySelector : List (Option (Operands → Instr)) :=
  [some .encGetDevInfo, some .encPrepare, some .encGetBlVer, some .encGetAppVer, some .encGetHwType, some .encGetBatSn,
   some .encGetPktLen, some .encSetPktLen, some .encSetAppLen,
   some .encSetPktSeq, some .encSetPktAddr, none, some .encVerifyPkt, some .encVerifyAll,
   some .encUpdateCur, some .encUpdateAll, some .encGetUpdStatus]

/-- The commands of `DEC` in the order of their selectors (R68); UPDATE_CUR and UPDATE_ALL have no row. -/
def decBySelector : List (Option (Operands → Instr)) :=
  [some .decGetDevInfo, some .decPrepare, some .decGetBlVer, some .decGetAppVer, some .decGetHwType, some .decGetBatSn,
   some .decGetPktLen, some .decSetPktLen, some .decSetAppLen,
   some .decSetPktSeq, some .decSetPktAddr, some .decSendPkt, some .decVerifyPkt, some .decVerifyAll,
   none, none, some .decGetUpdStatus]

/-- The ten `ENC` commands that read `A` alone (R152), each with the command whose opcode its frame carries. -/
def encNoArgumentRows : List ((Operands → Instr) × Cmd) :=
  [(.encGetDevInfo, .getDevInfo),
   (.encPrepare, .prepare),
   (.encGetBlVer, .getBlVer),
   (.encGetAppVer, .getAppVer),
   (.encGetHwType, .getHwType),
   (.encGetBatSn, .getBatSn),
   (.encGetPktLen, .getPktLen),
   (.encUpdateCur, .updateCur),
   (.encUpdateAll, .updateAll),
   (.encGetUpdStatus, .getUpdStatus)]

/-- What every `DEC` command can answer (R207). -/
def validatorAnswers : List (Status × Field) :=
  [(.ok, .none), (.illegalRequest, .reserved), (.idMismatch, .none), (.validationFailed, .length), (.validationFailed, .status)]

/-- Which answers an instruction can give (60_exceptions.md R207); "every other combination never happens". -/
def possibleAnswers : Instr → List (Status × Field)
  | .nop _ _ => [(.ok, .none), (.illegalRequest, .reserved)]
  | .crc16Init _ _ => [(.ok, .none), (.illegalRequest, .reserved)]
  | .crc16Feed _ _ => [(.ok, .none), (.illegalRequest, .reserved), (.illegalRequest, .range), (.notInitialised, .crc16)]
  | .crc16Read _ _ => [(.ok, .none), (.illegalRequest, .reserved), (.notInitialised, .crc16)]
  | .crc32Init _ _ => [(.ok, .none), (.illegalRequest, .reserved)]
  | .crc32Feed _ _ => [(.ok, .none), (.illegalRequest, .reserved), (.illegalRequest, .range), (.notInitialised, .crc32)]
  | .crc32Read _ _ => [(.ok, .none), (.illegalRequest, .reserved), (.notInitialised, .crc32)]
  | .frameCmd _ _ => [(.ok, .none), (.illegalRequest, .reserved), (.illegalRequest, .range)]
  | .frameData _ _ => [(.ok, .none), (.illegalRequest, .reserved)]
  | .encGetDevInfo _ => [(.ok, .none), (.illegalRequest, .reserved)]
  | .encPrepare _ => [(.ok, .none), (.illegalRequest, .reserved)]
  | .encGetBlVer _ => [(.ok, .none), (.illegalRequest, .reserved)]
  | .encGetAppVer _ => [(.ok, .none), (.illegalRequest, .reserved)]
  | .encGetHwType _ => [(.ok, .none), (.illegalRequest, .reserved)]
  | .encGetBatSn _ => [(.ok, .none), (.illegalRequest, .reserved)]
  | .encGetPktLen _ => [(.ok, .none), (.illegalRequest, .reserved)]
  | .encSetPktLen _ => [(.ok, .none), (.illegalRequest, .reserved), (.unsupportedParameter, .packetLen)]
  | .encSetAppLen _ => [(.ok, .none), (.illegalRequest, .reserved)]
  | .encSetPktSeq _ => [(.ok, .none), (.illegalRequest, .reserved)]
  | .encSetPktAddr _ => [(.ok, .none), (.illegalRequest, .reserved)]
  | .encVerifyPkt _ => [(.ok, .none), (.illegalRequest, .reserved)]
  | .encVerifyAll _ => [(.ok, .none), (.illegalRequest, .reserved), (.unsupportedParameter, .crcType)]
  | .encUpdateCur _ => [(.ok, .none), (.illegalRequest, .reserved)]
  | .encUpdateAll _ => [(.ok, .none), (.illegalRequest, .reserved)]
  | .encGetUpdStatus _ => [(.ok, .none), (.illegalRequest, .reserved)]
  | .decGetDevInfo _ => validatorAnswers
  | .decPrepare _ => validatorAnswers ++ [(.validationFailed, .magic)]
  | .decGetBlVer _ => validatorAnswers
  | .decGetAppVer _ => validatorAnswers
  | .decGetHwType _ => validatorAnswers
  | .decGetBatSn _ => validatorAnswers
  | .decGetPktLen _ => validatorAnswers
  | .decSetPktLen _ => validatorAnswers ++ [(.validationFailed, .ack)]
  | .decSetAppLen _ => validatorAnswers
  | .decSetPktSeq _ => validatorAnswers ++ [(.validationFailed, .ack)]
  | .decSetPktAddr _ => validatorAnswers
  | .decSendPkt _ => validatorAnswers ++ [(.validationFailed, .ack)]
  | .decVerifyPkt _ => validatorAnswers ++ [(.validationFailed, .ack)]
  | .decVerifyAll _ => validatorAnswers ++ [(.validationFailed, .ack)]
  | .decGetUpdStatus _ => validatorAnswers

end Sys2Proof.Machine
end

