-- ==== Sys2Proof/WellFormed.lean ====
section
/-! DEFINITION. Which instructions are legal requests: those whose words the block never answers with `ILLEGAL_REQUEST`
(30_encoding.md R64, R66, R67; 42_dfu_commands.md R152). An argument outside its legal set (a packet length, a CRC type)
is no ill-formed request: the block answers `UNSUPPORTED_PARAMETER` for it (60_exceptions.md R204). -/

namespace Sys2Proof

/-- A byte field that R64 marks "0". -/
def zeroByte (x : Byte) : Bool := x == 0

/-- A count that R64 bounds by 8 (R67). -/
def countOk (b : Byte) : Bool := decide (b.toNat ≤ 8)

/-- `W` holds an argument in its low 16 bits only: `W[31:16]` is 0 (R64, R152). -/
def highHalfZero (w : Word32) : Bool := w.extractLsb' 16 16 == 0

/-- `W` holds an 11-bit identifier: `W[31:11]` is 0 (R64). -/
def aboveIdZero (w : Word32) : Bool := w.extractLsb' 11 21 == 0

/-- A plain operation with no operand: NOP, CRC16_READ, CRC32_READ. -/
def wfNoOperand (k : Byte) (r : Operands) : Bool :=
  zeroByte k && zeroByte r.a && zeroByte r.b && r.w == 0 && r.p == 0

/-- CRC16_FEED and CRC32_FEED. -/
def wfFeed (k : Byte) (r : Operands) : Bool := zeroByte k && zeroByte r.a && r.w == 0 && countOk r.b

/-- An `ENC` command that reads `A` alone. -/
def wfEncNoArg (r : Operands) : Bool := zeroByte r.b && r.w == 0 && r.p == 0

/-- An `ENC` command with an argument in all of `W`. -/
def wfEncWide (r : Operands) : Bool := zeroByte r.b && r.p == 0

/-- An `ENC` command with an argument in `W[15:0]`. -/
def wfEncHalf (r : Operands) : Bool := zeroByte r.b && highHalfZero r.w && r.p == 0

/-- `ENC` VERIFY_ALL: `W[31:16]` is reserved for type 0 only (R152, R179). -/
def wfEncVerifyAll (r : Operands) : Bool := (r.b != 0 || highHalfZero r.w) && r.p == 0

/-- Every `DEC` command. -/
def wfDec (r : Operands) : Bool := zeroByte r.a && zeroByte r.b && aboveIdZero r.w

/-- The legal requests. -/
def Instr.wellFormed : Instr → Bool
  | .nop k r => wfNoOperand k r
  | .crc16Init k r => zeroByte k && zeroByte r.a && zeroByte r.b && highHalfZero r.w && r.p == 0
  | .crc16Feed k r => wfFeed k r
  | .crc16Read k r => wfNoOperand k r
  | .crc32Init k r => zeroByte k && zeroByte r.a && zeroByte r.b && r.p == 0
  | .crc32Feed k r => wfFeed k r
  | .crc32Read k r => wfNoOperand k r
  | .frameCmd k r => zeroByte k && r.w == 0 && countOk r.b
  | .frameData k r => zeroByte k && zeroByte r.a && zeroByte r.b && r.w == 0
  | .encGetDevInfo r => wfEncNoArg r
  | .encPrepare r => wfEncNoArg r
  | .encGetBlVer r => wfEncNoArg r
  | .encGetAppVer r => wfEncNoArg r
  | .encGetHwType r => wfEncNoArg r
  | .encGetBatSn r => wfEncNoArg r
  | .encGetPktLen r => wfEncNoArg r
  | .encSetPktLen r => wfEncWide r
  | .encSetAppLen r => wfEncWide r
  | .encSetPktSeq r => wfEncHalf r
  | .encSetPktAddr r => wfEncWide r
  | .encVerifyPkt r => wfEncHalf r
  | .encVerifyAll r => wfEncVerifyAll r
  | .encUpdateCur r => wfEncNoArg r
  | .encUpdateAll r => wfEncNoArg r
  | .encGetUpdStatus r => wfEncNoArg r
  | .decGetDevInfo r => wfDec r
  | .decPrepare r => wfDec r
  | .decGetBlVer r => wfDec r
  | .decGetAppVer r => wfDec r
  | .decGetHwType r => wfDec r
  | .decGetBatSn r => wfDec r
  | .decGetPktLen r => wfDec r
  | .decSetPktLen r => wfDec r
  | .decSetAppLen r => wfDec r
  | .decSetPktSeq r => wfDec r
  | .decSetPktAddr r => wfDec r
  | .decSendPkt r => wfDec r
  | .decVerifyPkt r => wfDec r
  | .decVerifyAll r => wfDec r
  | .decGetUpdStatus r => wfDec r

end Sys2Proof
end

