-- ==== Sys2Proof/Certificates/Slice0/Obligations.lean ====
section
/-! DEFINITION. The statements for the provers. Each states its frame as an equation: the whole next state, written as the state
before with the fields that change. -/

open Sys2Proof Sys2Proof.Machine

/-! ### Plain operations -/

/-- R131. -/
def Obligations.NopDoesNothing : Prop :=
  ∀ (k : Byte) (r : Operands) (s : State),
    (k = 0 ∧ r.a = 0 ∧ r.b = 0 ∧ r.w = 0 ∧ r.p = 0 →
      exec (.nop k r) s = .next { s with rsp := some ⟨.ok, .none, 0, 0, 0, 0⟩ }) ∧
    (¬ (k = 0 ∧ r.a = 0 ∧ r.b = 0 ∧ r.w = 0 ∧ r.p = 0) →
      exec (.nop k r) s = .next { s with rsp := some ⟨.illegalRequest, .reserved, 0, 0, 0, 0⟩ })

/-- R102. -/
def Obligations.Crc16InitLoadsTheSeed : Prop :=
  ∀ (k : Byte) (r : Operands) (s : State),
    (k = 0 ∧ r.a = 0 ∧ r.b = 0 ∧ r.w.toNat < 0x10000 ∧ r.p = 0 →
      exec (.crc16Init k r) s =
        .next { s with acc16 := r.w.setWidth 16, v16 := true, rsp := some ⟨.ok, .none, 0, 0, 0, 0⟩ }) ∧
    (¬ (k = 0 ∧ r.a = 0 ∧ r.b = 0 ∧ r.w.toNat < 0x10000 ∧ r.p = 0) →
      exec (.crc16Init k r) s = .next { s with rsp := some ⟨.illegalRequest, .reserved, 0, 0, 0, 0⟩ })

/-- R103: the bytes `P[0] .. P[B-1]` in ascending order. -/
def Obligations.Crc16FeedRunsTheCountedBytes : Prop :=
  ∀ (k : Byte) (r : Operands) (s : State),
    (k = 0 ∧ r.a = 0 ∧ r.w = 0 → r.b.toNat ≤ 8 → s.v16 = true →
      exec (.crc16Feed k r) s =
        .next { s with
          acc16 := ((List.range r.b.toNat).map (byteAt r.p)).foldl crc16Step s.acc16
          rsp := some ⟨.ok, .none, 0, 0, 0, 0⟩ }) ∧
    (¬ (k = 0 ∧ r.a = 0 ∧ r.w = 0) →
      exec (.crc16Feed k r) s = .next { s with rsp := some ⟨.illegalRequest, .reserved, 0, 0, 0, 0⟩ }) ∧
    (k = 0 ∧ r.a = 0 ∧ r.w = 0 → 8 < r.b.toNat →
      exec (.crc16Feed k r) s = .next { s with rsp := some ⟨.illegalRequest, .range, 0, 0, 0, 0⟩ }) ∧
    (k = 0 ∧ r.a = 0 ∧ r.w = 0 → r.b.toNat ≤ 8 → s.v16 = false →
      exec (.crc16Feed k r) s = .next { s with rsp := some ⟨.notInitialised, .crc16, 0, 0, 0, 0⟩ })

/-- R104. -/
def Obligations.Crc16ReadReturnsTheAccumulator : Prop :=
  ∀ (k : Byte) (r : Operands) (s : State),
    (k = 0 ∧ r.a = 0 ∧ r.b = 0 ∧ r.w = 0 ∧ r.p = 0 → s.v16 = true →
      exec (.crc16Read k r) s =
        .next { s with rsp := some ⟨.ok, .none, 0, 0, (0 : BitVec 16) ++ s.acc16, 0⟩ }) ∧
    (¬ (k = 0 ∧ r.a = 0 ∧ r.b = 0 ∧ r.w = 0 ∧ r.p = 0) →
      exec (.crc16Read k r) s = .next { s with rsp := some ⟨.illegalRequest, .reserved, 0, 0, 0, 0⟩ }) ∧
    (k = 0 ∧ r.a = 0 ∧ r.b = 0 ∧ r.w = 0 ∧ r.p = 0 → s.v16 = false →
      exec (.crc16Read k r) s = .next { s with rsp := some ⟨.notInitialised, .crc16, 0, 0, 0, 0⟩ })

/-- R115. -/
def Obligations.Crc32InitStoresTheComplementedSeed : Prop :=
  ∀ (k : Byte) (r : Operands) (s : State),
    (k = 0 ∧ r.a = 0 ∧ r.b = 0 ∧ r.p = 0 →
      exec (.crc32Init k r) s =
        .next { s with acc32 := ~~~ r.w, v32 := true, rsp := some ⟨.ok, .none, 0, 0, 0, 0⟩ }) ∧
    (¬ (k = 0 ∧ r.a = 0 ∧ r.b = 0 ∧ r.p = 0) →
      exec (.crc32Init k r) s = .next { s with rsp := some ⟨.illegalRequest, .reserved, 0, 0, 0, 0⟩ })

/-- R116: the bytes `P[0] .. P[B-1]` in ascending order. -/
def Obligations.Crc32FeedRunsTheCountedBytes : Prop :=
  ∀ (k : Byte) (r : Operands) (s : State),
    (k = 0 ∧ r.a = 0 ∧ r.w = 0 → r.b.toNat ≤ 8 → s.v32 = true →
      exec (.crc32Feed k r) s =
        .next { s with
          acc32 := ((List.range r.b.toNat).map (byteAt r.p)).foldl crc32Step s.acc32
          rsp := some ⟨.ok, .none, 0, 0, 0, 0⟩ }) ∧
    (¬ (k = 0 ∧ r.a = 0 ∧ r.w = 0) →
      exec (.crc32Feed k r) s = .next { s with rsp := some ⟨.illegalRequest, .reserved, 0, 0, 0, 0⟩ }) ∧
    (k = 0 ∧ r.a = 0 ∧ r.w = 0 → 8 < r.b.toNat →
      exec (.crc32Feed k r) s = .next { s with rsp := some ⟨.illegalRequest, .range, 0, 0, 0, 0⟩ }) ∧
    (k = 0 ∧ r.a = 0 ∧ r.w = 0 → r.b.toNat ≤ 8 → s.v32 = false →
      exec (.crc32Feed k r) s = .next { s with rsp := some ⟨.notInitialised, .crc32, 0, 0, 0, 0⟩ })

/-- R117. -/
def Obligations.Crc32ReadReturnsTheComplement : Prop :=
  ∀ (k : Byte) (r : Operands) (s : State),
    (k = 0 ∧ r.a = 0 ∧ r.b = 0 ∧ r.w = 0 ∧ r.p = 0 → s.v32 = true →
      exec (.crc32Read k r) s = .next { s with rsp := some ⟨.ok, .none, 0, 0, ~~~ s.acc32, 0⟩ }) ∧
    (¬ (k = 0 ∧ r.a = 0 ∧ r.b = 0 ∧ r.w = 0 ∧ r.p = 0) →
      exec (.crc32Read k r) s = .next { s with rsp := some ⟨.illegalRequest, .reserved, 0, 0, 0, 0⟩ }) ∧
    (k = 0 ∧ r.a = 0 ∧ r.b = 0 ∧ r.w = 0 ∧ r.p = 0 → s.v32 = false →
      exec (.crc32Read k r) s = .next { s with rsp := some ⟨.notInitialised, .crc32, 0, 0, 0, 0⟩ })

/-- R132: byte 1 is the address, the other bytes below the count are the template's, the rest are 0x00. -/
def Obligations.FrameCmdPadsTheTemplate : Prop :=
  ∀ (k : Byte) (r : Operands) (s : State),
    (k = 0 ∧ r.w = 0 → r.b.toNat ≤ 8 →
      ∃ f : Payload,
        exec (.frameCmd k r) s =
          .next { s with rsp := some ⟨.ok, .none, 0, 0, (0 : BitVec 21) ++ s.cfg.raw.cmdId, f⟩ } ∧
        byteAt f 1 = r.a ∧
        ∀ i, i < 8 → i ≠ 1 → byteAt f i = if i < r.b.toNat then byteAt r.p i else 0x00) ∧
    (¬ (k = 0 ∧ r.w = 0) →
      exec (.frameCmd k r) s = .next { s with rsp := some ⟨.illegalRequest, .reserved, 0, 0, 0, 0⟩ }) ∧
    (k = 0 ∧ r.w = 0 → 8 < r.b.toNat →
      exec (.frameCmd k r) s = .next { s with rsp := some ⟨.illegalRequest, .range, 0, 0, 0, 0⟩ })

/-- R133. -/
def Obligations.FrameDataCopiesTheBytes : Prop :=
  ∀ (k : Byte) (r : Operands) (s : State),
    (k = 0 ∧ r.a = 0 ∧ r.b = 0 ∧ r.w = 0 →
      exec (.frameData k r) s =
        .next { s with rsp := some ⟨.ok, .none, 0, 0, (0 : BitVec 21) ++ s.cfg.raw.datId, r.p⟩ }) ∧
    (¬ (k = 0 ∧ r.a = 0 ∧ r.b = 0 ∧ r.w = 0) →
      exec (.frameData k r) s = .next { s with rsp := some ⟨.illegalRequest, .reserved, 0, 0, 0, 0⟩ })

/-! ### ENC. A frame is written as one number, most significant byte first: payload byte 0 is the last one (R41). -/

/-- R153, R155, R157, R159, R161, R163, R165, R181, R183, R185: the frame is `[0x02, A, OPC, 0, 0, 0, 0, 0]`. -/
def Obligations.EncWithoutArgumentBuildsTheFrame : Prop :=
  ∀ row ∈ encNoArgumentRows, ∀ (r : Operands) (s : State),
    (r.b = 0 ∧ r.w = 0 ∧ r.p = 0 →
      exec (row.1 r) s =
        .next { s with
          rsp := some ⟨.ok, .none, 0, 0, (0 : BitVec 21) ++ s.cfg.raw.cmdId,
            (0 : BitVec 40) ++ s.cfg.raw.opcOf row.2 ++ r.a ++ (0x02 : Byte)⟩ }) ∧
    (¬ (r.b = 0 ∧ r.w = 0 ∧ r.p = 0) →
      exec (row.1 r) s = .next { s with rsp := some ⟨.illegalRequest, .reserved, 0, 0, 0, 0⟩ })

/-- R167: all 32 bits of `W` are compared. -/
def Obligations.EncSetPktLenChecksTheLength : Prop :=
  ∀ (r : Operands) (s : State),
    (r.b = 0 ∧ r.p = 0 → r.w.toNat ∈ [8, 16, 32, 64, 128, 256, 512] →
      exec (.encSetPktLen r) s =
        .next { s with
          rsp := some ⟨.ok, .none, 0, 0, (0 : BitVec 21) ++ s.cfg.raw.cmdId,
            (0 : BitVec 24) ++ r.w.setWidth 16 ++ s.cfg.raw.opcOf .setPktLen ++ r.a ++ (0x04 : Byte)⟩ }) ∧
    (¬ (r.b = 0 ∧ r.p = 0) →
      exec (.encSetPktLen r) s = .next { s with rsp := some ⟨.illegalRequest, .reserved, 0, 0, 0, 0⟩ }) ∧
    (r.b = 0 ∧ r.p = 0 → r.w.toNat ∉ [8, 16, 32, 64, 128, 256, 512] →
      exec (.encSetPktLen r) s = .next { s with rsp := some ⟨.unsupportedParameter, .packetLen, 0, 0, r.w, 0⟩ })

/-- R169, R173: a 32-bit argument, little-endian at bytes 3 to 6. -/
def Obligations.EncWordArgumentBuildsTheFrame : Prop :=
  ∀ row ∈ ([(.encSetAppLen, .setAppLen), (.encSetPktAddr, .setPktAddr)] : List ((Operands → Instr) × Cmd)),
    ∀ (r : Operands) (s : State),
    (r.b = 0 ∧ r.p = 0 →
      exec (row.1 r) s =
        .next { s with
          rsp := some ⟨.ok, .none, 0, 0, (0 : BitVec 21) ++ s.cfg.raw.cmdId,
            (0 : BitVec 8) ++ r.w ++ s.cfg.raw.opcOf row.2 ++ r.a ++ (0x06 : Byte)⟩ }) ∧
    (¬ (r.b = 0 ∧ r.p = 0) →
      exec (row.1 r) s = .next { s with rsp := some ⟨.illegalRequest, .reserved, 0, 0, 0, 0⟩ })

/-- R171, R177: a 16-bit argument, little-endian at bytes 3 and 4. -/
def Obligations.EncHalfArgumentBuildsTheFrame : Prop :=
  ∀ row ∈ ([(.encSetPktSeq, .setPktSeq), (.encVerifyPkt, .verifyPkt)] : List ((Operands → Instr) × Cmd)),
    ∀ (r : Operands) (s : State),
    (r.b = 0 ∧ r.p = 0 ∧ r.w.toNat < 0x10000 →
      exec (row.1 r) s =
        .next { s with
          rsp := some ⟨.ok, .none, 0, 0, (0 : BitVec 21) ++ s.cfg.raw.cmdId,
            (0 : BitVec 24) ++ r.w.setWidth 16 ++ s.cfg.raw.opcOf row.2 ++ r.a ++ (0x04 : Byte)⟩ }) ∧
    (¬ (r.b = 0 ∧ r.p = 0 ∧ r.w.toNat < 0x10000) →
      exec (row.1 r) s = .next { s with rsp := some ⟨.illegalRequest, .reserved, 0, 0, 0, 0⟩ })

/-- R179: the CRC type is checked before the reserved bits of `W`. -/
def Obligations.EncVerifyAllBuildsTheFrame : Prop :=
  ∀ (r : Operands) (s : State),
    (r.p = 0 → r.b = 0 → r.w.toNat < 0x10000 →
      exec (.encVerifyAll r) s =
        .next { s with
          rsp := some ⟨.ok, .none, 0, 0, (0 : BitVec 21) ++ s.cfg.raw.cmdId,
            (0 : BitVec 16) ++ r.w.setWidth 16 ++ (0x00 : Byte) ++ s.cfg.raw.opcOf .verifyAll ++ r.a ++ (0x05 : Byte)⟩ }) ∧
    (r.p = 0 → r.b = 1 →
      exec (.encVerifyAll r) s =
        .next { s with
          rsp := some ⟨.ok, .none, 0, 0, (0 : BitVec 21) ++ s.cfg.raw.cmdId,
            r.w ++ (0x01 : Byte) ++ s.cfg.raw.opcOf .verifyAll ++ r.a ++ (0x07 : Byte)⟩ }) ∧
    (r.p = 0 → 1 < r.b.toNat →
      exec (.encVerifyAll r) s =
        .next { s with rsp := some ⟨.unsupportedParameter, .crcType, 0, 0, (0 : BitVec 24) ++ r.b, 0⟩ }) ∧
    (r.p ≠ 0 →
      exec (.encVerifyAll r) s = .next { s with rsp := some ⟨.illegalRequest, .reserved, 0, 0, 0, 0⟩ }) ∧
    (r.p = 0 → r.b = 0 → 0x10000 ≤ r.w.toNat →
      exec (.encVerifyAll r) s = .next { s with rsp := some ⟨.illegalRequest, .reserved, 0, 0, 0, 0⟩ })

/-! ### DEC -/

/-- R154, R158, R160, R162, R164, R166, R170, R174, R186: the nine commands whose check is NONE. Identifier, length, status, in
that order; then the value at its bits of the payload and the data bytes the length covers. The length R158 expects of
GET_BL_VER is 7. -/
def Obligations.DecWithoutAckValidatesTheResponse : Prop :=
  (∀ s : State, s.cfg.raw.rspLenOf .getBlVer = 7) ∧
  ∀ row ∈ decRows, row.check = .none → ∀ (r : Operands) (s : State),
    (¬ (r.a = 0 ∧ r.b = 0 ∧ r.w.toNat < 0x800) →
      exec (row.make r) s = .next { s with rsp := some ⟨.illegalRequest, .reserved, 0, 0, 0, 0⟩ }) ∧
    (r.a = 0 ∧ r.b = 0 ∧ r.w.toNat < 0x800 →
      (r.w.setWidth 11 ≠ s.cfg.raw.rspId →
        exec (row.make r) s = .next { s with rsp := some ⟨.idMismatch, .none, 0, 0, 0, 0⟩ }) ∧
      (r.w.setWidth 11 = s.cfg.raw.rspId →
        (byteAt r.p 0 ≠ s.cfg.raw.rspLenOf row.cmd →
          exec (row.make r) s =
            .next { s with rsp := some ⟨.validationFailed, .length, s.cfg.raw.rspLenOf row.cmd, byteAt r.p 0, 0, 0⟩ }) ∧
        (byteAt r.p 0 = s.cfg.raw.rspLenOf row.cmd → byteAt r.p 2 ≠ s.cfg.raw.opcOf row.cmd.cmd + 0x40 →
          exec (row.make r) s =
            .next { s with
              rsp := some ⟨.validationFailed, .status, s.cfg.raw.opcOf row.cmd.cmd + 0x40, byteAt r.p 2, 0, 0⟩ }) ∧
        (byteAt r.p 0 = s.cfg.raw.rspLenOf row.cmd → byteAt r.p 2 = s.cfg.raw.opcOf row.cmd.cmd + 0x40 →
          ∃ f : Payload,
            exec (row.make r) s =
              .next { s with
                rsp := some ⟨.ok, .none, 0, 0, (r.p.extractLsb' row.valueAt row.valueBits).setWidth 32, f⟩ } ∧
            ∀ i, i < 8 → byteAt f i = if i + 2 < (byteAt r.p 0).toNat then byteAt r.p (i + 3) else 0x00)))

/-- R168, R172, R176, R178, R180: the five commands whose check is a single ack byte at offset 3. The length R168 and R180
expect is 3. -/
def Obligations.DecAckValidatesTheResponse : Prop :=
  (∀ s : State, s.cfg.raw.rspLenOf .setPktLen = 3 ∧ s.cfg.raw.rspLenOf .verifyAll = 3) ∧
  ∀ row ∈ decRows, ∀ code : Byte, row.check = .ack code → ∀ (r : Operands) (s : State),
    (¬ (r.a = 0 ∧ r.b = 0 ∧ r.w.toNat < 0x800) →
      exec (row.make r) s = .next { s with rsp := some ⟨.illegalRequest, .reserved, 0, 0, 0, 0⟩ }) ∧
    (r.a = 0 ∧ r.b = 0 ∧ r.w.toNat < 0x800 →
      (r.w.setWidth 11 ≠ s.cfg.raw.rspId →
        exec (row.make r) s = .next { s with rsp := some ⟨.idMismatch, .none, 0, 0, 0, 0⟩ }) ∧
      (r.w.setWidth 11 = s.cfg.raw.rspId →
        (byteAt r.p 0 ≠ s.cfg.raw.rspLenOf row.cmd →
          exec (row.make r) s =
            .next { s with rsp := some ⟨.validationFailed, .length, s.cfg.raw.rspLenOf row.cmd, byteAt r.p 0, 0, 0⟩ }) ∧
        (byteAt r.p 0 = s.cfg.raw.rspLenOf row.cmd → byteAt r.p 2 ≠ s.cfg.raw.opcOf row.cmd.cmd + 0x40 →
          exec (row.make r) s =
            .next { s with
              rsp := some ⟨.validationFailed, .status, s.cfg.raw.opcOf row.cmd.cmd + 0x40, byteAt r.p 2, 0, 0⟩ }) ∧
        (byteAt r.p 0 = s.cfg.raw.rspLenOf row.cmd → byteAt r.p 2 = s.cfg.raw.opcOf row.cmd.cmd + 0x40 →
          byteAt r.p 3 ≠ code →
          exec (row.make r) s = .next { s with rsp := some ⟨.validationFailed, .ack, code, byteAt r.p 3, 0, 0⟩ }) ∧
        (byteAt r.p 0 = s.cfg.raw.rspLenOf row.cmd → byteAt r.p 2 = s.cfg.raw.opcOf row.cmd.cmd + 0x40 →
          byteAt r.p 3 = code →
          ∃ f : Payload,
            exec (row.make r) s =
              .next { s with
                rsp := some ⟨.ok, .none, 0, 0, (r.p.extractLsb' row.valueAt row.valueBits).setWidth 32, f⟩ } ∧
            ∀ i, i < 8 → byteAt f i = if i + 2 < (byteAt r.p 0).toNat then byteAt r.p (i + 3) else 0x00)))

/-- R156: the magic is 0xCC at offset 3 and 0xFE at offset 4, byte 3 reported first; `V` is the cell count at offset 5; the
expected length is 5, which a legal configuration fixes. -/
def Obligations.DecPrepareChecksTheMagic : Prop :=
  ∀ (r : Operands) (s : State),
    (¬ (r.a = 0 ∧ r.b = 0 ∧ r.w.toNat < 0x800) →
      exec (.decPrepare r) s = .next { s with rsp := some ⟨.illegalRequest, .reserved, 0, 0, 0, 0⟩ }) ∧
    (r.a = 0 ∧ r.b = 0 ∧ r.w.toNat < 0x800 →
      (r.w.setWidth 11 ≠ s.cfg.raw.rspId →
        exec (.decPrepare r) s = .next { s with rsp := some ⟨.idMismatch, .none, 0, 0, 0, 0⟩ }) ∧
      (r.w.setWidth 11 = s.cfg.raw.rspId →
        (byteAt r.p 0 ≠ 5 →
          exec (.decPrepare r) s =
            .next { s with rsp := some ⟨.validationFailed, .length, 5, byteAt r.p 0, 0, 0⟩ }) ∧
        (byteAt r.p 0 = 5 → byteAt r.p 2 ≠ s.cfg.raw.opcOf .prepare + 0x40 →
          exec (.decPrepare r) s =
            .next { s with
              rsp := some ⟨.validationFailed, .status, s.cfg.raw.opcOf .prepare + 0x40, byteAt r.p 2, 0, 0⟩ }) ∧
        (byteAt r.p 0 = 5 → byteAt r.p 2 = s.cfg.raw.opcOf .prepare + 0x40 → byteAt r.p 3 ≠ 0xCC →
          exec (.decPrepare r) s = .next { s with rsp := some ⟨.validationFailed, .magic, 0xCC, byteAt r.p 3, 0, 0⟩ }) ∧
        (byteAt r.p 0 = 5 → byteAt r.p 2 = s.cfg.raw.opcOf .prepare + 0x40 → byteAt r.p 3 = 0xCC → byteAt r.p 4 ≠ 0xFE →
          exec (.decPrepare r) s = .next { s with rsp := some ⟨.validationFailed, .magic, 0xFE, byteAt r.p 4, 0, 0⟩ }) ∧
        (byteAt r.p 0 = 5 → byteAt r.p 2 = s.cfg.raw.opcOf .prepare + 0x40 → byteAt r.p 3 = 0xCC → byteAt r.p 4 = 0xFE →
          exec (.decPrepare r) s =
            .next { s with
              rsp := some ⟨.ok, .none, 0, 0, (0 : BitVec 24) ++ byteAt r.p 5,
                (0 : BitVec 40) ++ byteAt r.p 5 ++ (0xFE : Byte) ++ (0xCC : Byte)⟩ })))

/-! ### Requests and their words -/

/-- One step takes the 16 bytes at the head of the port and performs the instruction they decode to; the port moves past
them (R43, R47; 92_eei_decisions.md D1). -/
def Obligations.StepRunsTheDecodedInstruction : Prop :=
  ∀ (s : State) (bs : List Byte) (rest : List PortEvent) (i : Instr),
    s.port = byteEvents bs ++ rest → decode bs = .ok i → step s = exec i { s with port := rest }

/-- A few request words of 95_test_vectors.md, byte by byte in the order of R43. -/
def Obligations.KnownRequestBytesDecode : Prop :=
  decode [0x01, 0, 0, 0, 0xFF, 0xFF, 0, 0, 0, 0, 0, 0, 0, 0, 0, 0] = .ok (.crc16Init 0 ⟨0, 0, 0xFFFF, 0⟩) ∧
  decode [0x05, 0, 0, 8, 0, 0, 0, 0, 0x31, 0x32, 0x33, 0x34, 0x35, 0x36, 0x37, 0x38] =
    .ok (.crc32Feed 0 ⟨0, 8, 0, 0x3837363534333231⟩) ∧
  decode [0x0A, 0x0D, 3, 1, 0x73, 0x8C, 0x05, 0x29, 0, 0, 0, 0, 0, 0, 0, 0] =
    .ok (.encVerifyAll ⟨3, 1, 0x29058C73, 0⟩) ∧
  decode [0x0B, 0x01, 0, 0, 0x02, 0x01, 0, 0, 5, 3, 0x42, 0xCC, 0xFE, 4, 0, 0] =
    .ok (.decPrepare ⟨0, 0, 0x102, 0x000004FECC420305⟩)

/-- Decoding and encoding agree in both directions, for every instruction with every operand: no bit of a request word is
dropped, and two words never decode to one instruction. -/
def Obligations.DecodeAndEncodeAgree : Prop :=
  (∀ i : Instr, decode (encodeBytes i) = .ok i) ∧
  (∀ (bs : List Byte) (i : Instr), decode bs = .ok i → encodeBytes i = bs)

/-- The operation map of R63 for the nine operations that `OP` alone selects: whatever the other fields hold. -/
def Obligations.OpPicksThePlainOperation : Prop :=
  ∀ row ∈ ([(0x00, .nop), (0x01, .crc16Init), (0x02, .crc16Feed), (0x03, .crc16Read), (0x04, .crc32Init),
      (0x05, .crc32Feed), (0x06, .crc32Read), (0x08, .frameCmd), (0x09, .frameData)] :
      List (Byte × (Byte → Operands → Instr))),
    ∀ (k : Byte) (r : Operands), decodeFields row.1 k r = .ok (row.2 k r)

/-- R68: with `OP` 0x0A or 0x0B the selector picks the command, in the order of the table; the rest is illegal. -/
def Obligations.SelectorPicksTheCommand : Prop :=
  ∀ (k : Byte) (r : Operands),
    (∀ make, encBySelector[k.toNat]? = some (some make) → decodeFields 0x0A k r = .ok (make r)) ∧
    ((∀ make, encBySelector[k.toNat]? ≠ some (some make)) → decodeFields 0x0A k r = .error .illegalK) ∧
    (∀ make, decBySelector[k.toNat]? = some (some make) → decodeFields 0x0B k r = .ok (make r)) ∧
    ((∀ make, decBySelector[k.toNat]? ≠ some (some make)) → decodeFields 0x0B k r = .error .illegalK)

/-- R65: a reserved `OP` is answered ILLEGAL_REQUEST (OP), whatever the other 15 bytes hold, and changes no block state. -/
def Obligations.ReservedOpIsIllegal : Prop :=
  ∀ (s : State) (op : Byte) (others : List Byte) (rest : List PortEvent),
    op = 0x07 ∨ 0x0C ≤ op.toNat → others.length = 15 → s.port = byteEvents (op :: others) ++ rest →
    step s = .next { s with port := rest, rsp := some ⟨.illegalRequest, .op, 0, 0, 0, 0⟩ }

/-- R182, R184, and the last sentence before R68's note on `connect`: an illegal selector is answered ILLEGAL_REQUEST (K),
whatever the other 14 bytes hold, and changes no block state. -/
def Obligations.IllegalSelectorIsAnswered : Prop :=
  ∀ (s : State) (op k : Byte) (others : List Byte) (rest : List PortEvent),
    (op = 0x0A ∧ (k = 0x0B ∨ 0x10 < k.toNat)) ∨ (op = 0x0B ∧ (k = 0x0E ∨ k = 0x0F ∨ 0x10 < k.toNat)) →
    others.length = 14 → s.port = byteEvents (op :: k :: others) ++ rest →
    step s = .next { s with port := rest, rsp := some ⟨.illegalRequest, .k, 0, 0, 0, 0⟩ }

/-- R67: bytes past the count are ignored, and a count above 8 is illegal. (A nonzero reserved field is reported before the
count, R208.) -/
def Obligations.BytesPastTheCountAreIgnored : Prop :=
  (∀ make ∈ ([.crc16Feed, .crc32Feed, .frameCmd] : List (Byte → Operands → Instr)),
    ∀ (k : Byte) (r : Operands) (p : Payload) (s : State),
    (∀ i, i < 8 → i < r.b.toNat → byteAt p i = byteAt r.p i) → exec (make k { r with p := p }) s = exec (make k r) s) ∧
  (∀ make ∈ ([.crc16Feed, .crc32Feed] : List (Byte → Operands → Instr)), ∀ (b : Byte) (p : Payload) (s : State),
    8 < b.toNat → exec (make 0 ⟨0, b, 0, p⟩) s = .next { s with rsp := some ⟨.illegalRequest, .range, 0, 0, 0, 0⟩ }) ∧
  (∀ (a b : Byte) (p : Payload) (s : State), 8 < b.toNat →
    exec (.frameCmd 0 ⟨a, b, 0, p⟩) s = .next { s with rsp := some ⟨.illegalRequest, .range, 0, 0, 0, 0⟩ })

/-- R205 and R208 against the fields of R64 and R152: an instruction is answered ILLEGAL_REQUEST exactly when it is not a
legal request. -/
def Obligations.IllegalRequestIffNotWellFormed : Prop :=
  ∀ (i : Instr) (s t : State) (x : Response),
    exec i s = .next t → t.rsp = some x → (x.st = .illegalRequest ↔ i.wellFormed = false)

/-! ### Statuses -/

/-- R207: an instruction gives no answer but those of its row of the table. -/
def Obligations.AnswersAreThoseOfTheStatusTable : Prop :=
  ∀ (i : Instr) (s : State), ∃ (t : State) (x : Response),
    exec i s = .next t ∧ t.rsp = some x ∧ (x.st, x.fld) ∈ possibleAnswers i

/-- R209: every request gets one response, and one other than OK leaves the state as it was: only the request is gone from
the port and the response is on its port. -/
def Obligations.ErrorsWriteNoState : Prop :=
  ∀ (s t : State) (bs : List Byte) (rest : List PortEvent),
    bs.length = 16 → s.port = byteEvents bs ++ rest → step s = .next t →
    ∃ x, t.rsp = some x ∧ (x.st ≠ .ok → t = { s with port := rest, rsp := some x })

/-- R210: after an error response the next request behaves as if the failing one had never arrived. -/
def Obligations.ErrorsLeaveNoTrace : Prop :=
  ∀ (i j : Instr) (s t : State) (x : Response),
    exec i s = .next t → t.rsp = some x → x.st ≠ .ok → exec j t = exec j s

/-- The form that R200 to R206 give each status holds of the response port in every state a step leads to, from any state
in which it holds. -/
def Obligations.StepKeepsResponsesWellShaped : Prop :=
  ∀ s t : State, s.PortWellShaped → step s = .next t → t.PortWellShaped

/-- The invariant of the response port holds right after reset (the empty response port is the model's choice, log 7). -/
def Obligations.ResetResponsePortWellShaped : Prop := State.reset.PortWellShaped

/-- R213: nothing stops the block: every step, from every state, answers a next state. That a step on a port with no whole
request answers a next state at all is the model's choice (log 6); the spec has no step without a request. -/
def Obligations.StepAlwaysAnswersNext : Prop := ∀ s : State, ∃ t, step s = .next t

/-- R62: where each field stands in the response word, and the codes of R69 and R70. -/
def Obligations.ResponseWordHoldsItsFields : Prop :=
  (∀ x : Response,
    x.word.extractLsb' 0 8 = x.st.code ∧ x.word.extractLsb' 8 8 = x.fld.code ∧ x.word.extractLsb' 16 8 = x.exp ∧
    x.word.extractLsb' 24 8 = x.act ∧ x.word.extractLsb' 32 32 = x.v ∧ x.word.extractLsb' 64 64 = x.f) ∧
  ([Status.ok, .idMismatch, .validationFailed, .unsupportedParameter, .illegalRequest, .notInitialised].map Status.code =
    [0x00, 0x01, 0x02, 0x03, 0x04, 0x05]) ∧
  ([Field.none, .length, .status, .ack, .magic, .packetLen, .crcType, .op, .k, .reserved, .range, .crc16, .crc32].map
    Field.code = [0x00, 0x01, 0x02, 0x03, 0x04, 0x10, 0x11, 0x20, 0x21, 0x22, 0x23, 0x30, 0x31])

/-! ### State, reset, configuration -/

/-- R32: the codec reads and writes no CRC state, and neither CRC width reads or writes the other's. -/
def Obligations.UnitsShareNoState : Prop :=
  ∀ (i : Instr) (s t : State) (a16 : BitVec 16) (w16 : Bool) (a32 : BitVec 32) (w32 : Bool), exec i s = .next t →
    ((i.op = 0x00 ∨ i.op = 0x08 ∨ i.op = 0x09 ∨ i.op = 0x0A ∨ i.op = 0x0B) →
      s.SameBlock t ∧
      exec i { s with acc16 := a16, v16 := w16, acc32 := a32, v32 := w32 } =
        .next { t with acc16 := a16, v16 := w16, acc32 := a32, v32 := w32 }) ∧
    ((i.op = 0x01 ∨ i.op = 0x02 ∨ i.op = 0x03) →
      (t.acc32 = s.acc32 ∧ t.v32 = s.v32) ∧
      exec i { s with acc32 := a32, v32 := w32 } = .next { t with acc32 := a32, v32 := w32 }) ∧
    ((i.op = 0x04 ∨ i.op = 0x05 ∨ i.op = 0x06) →
      (t.acc16 = s.acc16 ∧ t.v16 = s.v16) ∧
      exec i { s with acc16 := a16, v16 := w16 } = .next { t with acc16 := a16, v16 := w16 })

/-- R22: a valid bit is 0 after reset, a legal INIT of its width sets it, no other operation changes it, and while it is 0
the legal FEED and READ of its width do nothing and answer NOT_INITIALISED. -/
def Obligations.ValidBitsFollowInit : Prop :=
  (State.reset.v16 = false ∧ State.reset.v32 = false) ∧
  (∀ (s : State) (rest : List PortEvent), (s.afterReset rest).v16 = false ∧ (s.afterReset rest).v32 = false) ∧
  ∀ (i : Instr) (s t : State), exec i s = .next t →
    (i.op = 0x01 → i.wellFormed = true → t.v16 = true) ∧
    (¬ (i.op = 0x01 ∧ i.wellFormed = true) → t.v16 = s.v16) ∧
    (i.op = 0x04 → i.wellFormed = true → t.v32 = true) ∧
    (¬ (i.op = 0x04 ∧ i.wellFormed = true) → t.v32 = s.v32) ∧
    ((i.op = 0x02 ∨ i.op = 0x03) → i.wellFormed = true → s.v16 = false →
      t = { s with rsp := some ⟨.notInitialised, .crc16, 0, 0, 0, 0⟩ }) ∧
    ((i.op = 0x05 ∨ i.op = 0x06) → i.wellFormed = true → s.v32 = false →
      t = { s with rsp := some ⟨.notInitialised, .crc32, 0, 0, 0, 0⟩ })

/-- R50: only the four INIT and FEED operations change the state; every other one leaves all of it but its response. -/
def Obligations.OnlyInitAndFeedChangeState : Prop :=
  ∀ (i : Instr) (s t : State), exec i s = .next t →
    i.op ≠ 0x01 → i.op ≠ 0x02 → i.op ≠ 0x04 → i.op ≠ 0x05 → ∃ x, t = { s with rsp := some x }

/-- R22 and R28 taken together: two states that differ at most in an accumulator whose valid bit is 0 stay so under any
step, and give the same responses. What an accumulator holds before its INIT is never observed. -/
def Obligations.UnwrittenAccumulatorsAreUnobservable : Prop :=
  ∀ s t s' : State, s.SameObservable t → step s = .next s' → ∃ t', step t = .next t' ∧ s'.SameObservable t'

/-- R231: reset does not change the configuration, and no other step does (R26). -/
def Obligations.StepKeepsTheConfiguration : Prop := ∀ s t : State, step s = .next t → t.cfg = s.cfg

/-- R230: reset clears both valid bits; a request still in transfer is discarded, so the state after does not depend on it;
it gets no response; the next request is the one that follows the reset; power-up is a reset. What the accumulators hold
is left open. -/
def Obligations.ResetDiscardsAndClears : Prop :=
  (∀ (s : State) (rest : List PortEvent), ∃ t : State,
    (∀ bs : List Byte, bs.length < 16 → step { s with port := byteEvents bs ++ PortEvent.reset :: rest } = .next t) ∧
    t.v16 = false ∧ t.v32 = false ∧ t.cfg = s.cfg ∧ t.port = rest ∧ (t.rsp = none ∨ t.rsp = s.rsp)) ∧
  State.reset.v16 = false ∧ State.reset.v32 = false

/-- R43: the operation begins only once all 16 bytes have arrived. That a waiting block changes nothing is the model's
choice (log 6). -/
def Obligations.IncompleteRequestWaits : Prop :=
  ∀ (s : State) (bs : List Byte), bs.length < 16 → s.port = byteEvents bs → step s = .next s

/-- R27: the five items, and that no block is built from a configuration that breaks one. -/
def Obligations.BuildRefusesAnIllegalConfiguration : Prop :=
  ∀ c : Cfg,
    let legal : Prop :=
      (c.cmdId.toNat < 0x800 ∧ c.datId.toNat < 0x800 ∧ c.rspId.toNat < 0x800 ∧
        c.cmdId ≠ c.datId ∧ c.cmdId ≠ c.rspId ∧ c.datId ≠ c.rspId) ∧
      (∀ k : Cmd, (c.opcOf k).getLsbD 6 = false) ∧
      (∀ k : RspCmd, 2 ≤ (c.rspLenOf k).toNat ∧ (c.rspLenOf k).toNat ≤ 7) ∧
      (c.rspLenOf .prepare = 5 ∧ c.rspLenOf .getBlVer = 7 ∧ c.rspLenOf .setPktLen = 3 ∧ c.rspLenOf .verifyAll = 3) ∧
      (∀ k : RspCmd, k.minLen ≤ (c.rspLenOf k).toNat)
    (legal → ∃ s, State.build c = .next s ∧ s.cfg.raw = c) ∧ (¬ legal → State.build c = .refused .illegalCfg)

/-- R74: the expected status byte, and that a legal configuration makes sum and disjunction equal with no carry. -/
def Obligations.ExpectedStatusIsSumAndDisjunction : Prop :=
  ∀ (c : LegalCfg) (k : RspCmd),
    expectedStatus c.raw k = c.raw.opcOf k.cmd + 0x40 ∧
    expectedStatus c.raw k = c.raw.opcOf k.cmd ||| 0x40 ∧
    (expectedStatus c.raw k).toNat = (c.raw.opcOf k.cmd).toNat + 0x40

/-! ### The validator and the encoder as wholes -/

/-- R145: `DEC` accepts a frame if and only if the identifier, the length, the status and the command check hold. -/
def Obligations.DecAcceptsExactlyTheMatchingFrames : Prop :=
  ∀ row ∈ decRows, ∀ (r : Operands) (s : State), r.a = 0 → r.b = 0 → r.w.toNat < 0x800 →
    (Accepts (row.make r) s ↔
      r.w.toNat = s.cfg.raw.rspId.toNat ∧ byteAt r.p 0 = s.cfg.raw.rspLenOf row.cmd ∧
      byteAt r.p 2 = s.cfg.raw.opcOf row.cmd.cmd + 0x40 ∧ row.check.Holds r.p)

/-- R146: flipping one bit of an accepted frame makes `DEC` reject it exactly when the bit lies in a checked byte. -/
def Obligations.SingleBitCorruptionIsSeenInCheckedBytes : Prop :=
  ∀ row ∈ decRows, ∀ (r : Operands) (s : State) (n : Nat), n < 64 → Accepts (row.make r) s →
    (Accepts (row.make { r with p := r.p ^^^ (1#64 <<< n) }) s ↔ n / 8 ∉ row.check.checkedBytes)

/-- R143, corner cases: the frame of an `ENC` command is the one FRAME_CMD builds from its bytes as a template with the same
address. -/
def Obligations.EncFrameIsATemplateFrame : Prop :=
  ∀ (i : Instr) (s t : State) (x : Response), i.op = 0x0A → exec i s = .next t → t.rsp = some x → x.st = .ok →
    exec (.frameCmd 0 ⟨i.operands.a, byteAt x.f 0 + 1, 0, x.f⟩) s = .next t

/-- R187: the block gives every update status code the same OK answer and returns it in `V`, for the caller to read. -/
def Obligations.UpdateStatusReachesTheCaller : Prop :=
  ∀ (s : State) (addr code b4 b5 b6 b7 : Byte), ∃ f : Payload,
    exec (.decGetUpdStatus ⟨0, 0, (0 : BitVec 21) ++ s.cfg.raw.rspId,
        b7 ++ b6 ++ b5 ++ b4 ++ code ++ (s.cfg.raw.opcOf .getUpdStatus + 0x40) ++ addr ++ s.cfg.raw.rspLenOf .getUpdStatus⟩) s =
      .next { s with rsp := some ⟨.ok, .none, 0, 0, (0 : BitVec 24) ++ code, f⟩ } ∧
    (updateVerdict ((0 : BitVec 24) ++ code) = .success ↔ code = 0xAA) ∧
    (updateVerdict ((0 : BitVec 24) ++ code) = .inProgress ↔ code = 0x0C ∨ code = 0x0D)

/-- R75: a packet of 8n bytes goes as n data frames in ascending order, each with its own 8 bytes unchanged, on
`Cfg.DAT_ID`. -/
def Obligations.PacketGoesAsDataFrames : Prop :=
  ∀ (n : Nat) (bs : List Byte) (s : State), bs.length = 8 * n →
    (Asm.sendPacket bs).length = n ∧
    ∀ j, j < n → ∃ (i : Instr) (f : Payload),
      (Asm.sendPacket bs)[j]? = some i ∧
      exec i s = .next { s with rsp := some ⟨.ok, .none, 0, 0, (0 : BitVec 21) ++ s.cfg.raw.datId, f⟩ } ∧
      ∀ m, m < 8 → byteAt f m = bs.getD (8 * j + m) 0

/-! ### The CRC functions -/

/-- The loops of R101 and R114, which the spec marks "[from general knowledge, not in source]" (log 10), turn by turn. -/
def Obligations.CrcStepsAreEightReflectedTurns : Prop :=
  (∀ (c : BitVec 16) (b : Byte),
    let turn := fun x : BitVec 16 => if x.getLsbD 0 = true then (x >>> 1) ^^^ 0xA001 else x >>> 1
    crc16Step c b = turn (turn (turn (turn (turn (turn (turn (turn (c ^^^ b.setWidth 16))))))))) ∧
  (∀ (r : BitVec 32) (b : Byte),
    let turn := fun x : BitVec 32 => if x.getLsbD 0 = true then (x >>> 1) ^^^ 0xEDB88320 else x >>> 1
    crc32Step r b = turn (turn (turn (turn (turn (turn (turn (turn (r ^^^ b.setWidth 32)))))))))

/-- R101: a 256-entry table is an equivalent implementation. The entry for `x` is `crc16_step(0, x)`; the loop is the
spec's own (log 10). -/
def Obligations.Crc16StepByTable : Prop :=
  ∀ (c : BitVec 16) (b : Byte), crc16Step c b = (c >>> 8) ^^^ crc16Step 0 (c.setWidth 8 ^^^ b)

/-- The same for CRC32 (R114; log 10). -/
def Obligations.Crc32StepByTable : Prop :=
  ∀ (r : BitVec 32) (b : Byte), crc32Step r b = (r >>> 8) ^^^ crc32Step 0 (r.setWidth 8 ^^^ b)

/-- R106 and R118: zero length gives the seed back. -/
def Obligations.ZeroLengthReturnsTheSeed : Prop :=
  (∀ seed : BitVec 16, crc16 [] seed = seed) ∧ crc16 [] 0xFFFF = 0xFFFF ∧
  (∀ seed : BitVec 32, crc32 [] seed = seed) ∧ crc32 [] 0 = 0

/-- R107 and R120, which the spec derives: a buffer may be cut anywhere, the first part's CRC being the second's seed. -/
def Obligations.CrcsChain : Prop :=
  (∀ (as bs : List Byte) (seed : BitVec 16), crc16 (as ++ bs) seed = crc16 bs (crc16 as seed)) ∧
  (∀ (as bs : List Byte) (seed : BitVec 32), crc32 (as ++ bs) seed = crc32 bs (crc32 as seed))

/-- R108, which the spec derives: under seed 0 any run of zero bytes gives 0. -/
def Obligations.ZeroSeedHidesZeroBytes : Prop := ∀ n : Nat, crc16 (List.replicate n 0x00) 0 = 0

/-- R109, which the spec derives and checked by computation only: appending the CRC16 low byte first gives 0. -/
def Obligations.Crc16ResidueIsZero : Prop :=
  ∀ (buf : List Byte) (seed : BitVec 16),
    crc16 (buf ++ [(crc16 buf seed).extractLsb' 0 8, (crc16 buf seed).extractLsb' 8 8]) seed = 0

/-- R122, which the spec derives and checked by computation only: appending the CRC32 least significant byte first gives one
constant. -/
def Obligations.Crc32ResidueIsConstant : Prop :=
  ∀ (buf : List Byte) (seed : BitVec 32),
    crc32 (buf ++ [(crc32 buf seed).extractLsb' 0 8, (crc32 buf seed).extractLsb' 8 8,
      (crc32 buf seed).extractLsb' 16 8, (crc32 buf seed).extractLsb' 24 8]) seed = 0x2144DF1C

/-- R112, which the spec derives: the requests of `crc16.buf`, offered on the port as bytes and run step by step, end with the
source function's value in `V`, for every buffer and seed and from every state; all else but the CRC16 state is as before. -/
def Obligations.Crc16BufComputesTheFunction : Prop :=
  ∀ (seed : BitVec 16) (buf : List Byte) (s : State) (rest : List PortEvent),
    s.port = Asm.offered (Asm.crc16Buf (seed.setWidth 32) buf) ++ rest →
    core.run (Asm.crc16Buf (seed.setWidth 32) buf).length s =
      .next { s with
        acc16 := crc16 buf seed
        v16 := true
        port := rest
        rsp := some ⟨.ok, .none, 0, 0, (crc16 buf seed).setWidth 32, 0⟩ }

/-- R124, which the spec derives: the same for `crc32.buf`. The register holds the complement of the value read. -/
def Obligations.Crc32BufComputesTheFunction : Prop :=
  ∀ (seed : BitVec 32) (buf : List Byte) (s : State) (rest : List PortEvent),
    s.port = Asm.offered (Asm.crc32Buf seed buf) ++ rest →
    core.run (Asm.crc32Buf seed buf).length s =
      .next { s with
        acc32 := ~~~ crc32 buf seed
        v32 := true
        port := rest
        rsp := some ⟨.ok, .none, 0, 0, crc32 buf seed, 0⟩ }

/-! ### The lengths a builder gets -/

/-- R151: the four lengths of the source and the six defaults of the spec are in force at State.reset (that nothing is
replaced there is the model's choice, log 2); in a block that a builder makes, each default is in force unless replaced, and
the OPEN lengths are those supplied; and parameters that meet R27, with every replacement from the minimum of R151 to 7, make a
block. -/
def Obligations.DefaultLengthsHoldUnlessReplaced : Prop :=
  (let len := State.reset.cfg.raw.rspLenOf;
    len .prepare = 5 ∧ len .getBlVer = 7 ∧ len .setPktLen = 3 ∧ len .verifyAll = 3 ∧
    len .getPktLen = 4 ∧ len .setAppLen = 6 ∧ len .setPktSeq = 5 ∧ len .sendPkt = 3 ∧ len .verifyPkt = 3 ∧
    len .getUpdStatus = 3) ∧
  (∀ (o : OpenParams) (c : LenChoices) (s : State), State.buildFrom o c = .next s →
    let len := s.cfg.raw.rspLenOf;
    (len .prepare = 5 ∧ len .getBlVer = 7 ∧ len .setPktLen = 3 ∧ len .verifyAll = 3) ∧
    (len .getPktLen = c.getPktLen.getD 4 ∧ len .setAppLen = c.setAppLen.getD 6 ∧ len .setPktSeq = c.setPktSeq.getD 5 ∧
      len .sendPkt = c.sendPkt.getD 3 ∧ len .verifyPkt = c.verifyPkt.getD 3 ∧ len .getUpdStatus = c.getUpdStatus.getD 3) ∧
    (len .getDevInfo = o.lens.getDevInfo ∧ len .getAppVer = o.lens.getAppVer ∧ len .getHwType = o.lens.getHwType ∧
      len .getBatSn = o.lens.getBatSn ∧ len .setPktAddr = o.lens.setPktAddr)) ∧
  (∀ (o : OpenParams) (c : LenChoices),
    (o.cmdId ≠ o.datId ∧ o.cmdId ≠ o.rspId ∧ o.datId ≠ o.rspId) →
    (∀ k : Cmd, ((Cfg.ofBuilder o c).opcOf k).getLsbD 6 = false) →
    (∀ x ∈ [(2, o.lens.getDevInfo), (2, o.lens.getAppVer), (2, o.lens.getHwType), (3, o.lens.getBatSn),
      (2, o.lens.setPktAddr)], x.1 ≤ x.2.toNat ∧ x.2.toNat ≤ 7) →
    (∀ x ∈ [(4, c.getPktLen), (6, c.setAppLen), (5, c.setPktSeq), (3, c.sendPkt), (3, c.verifyPkt), (3, c.getUpdStatus)],
      ∀ l ∈ x.2, x.1 ≤ l.toNat ∧ l.toNat ≤ 7) →
    ∃ s, State.buildFrom o c = .next s)
end

