-- ==== Sys2Proof/Laws/Assembler.lean ====
section
/-! SUPPORT. The chunks of 8 of the pseudo-operations (30_encoding.md R80). -/

namespace Sys2Proof.Asm

/-- A list of 1 to 7 bytes is one chunk. -/
theorem chunksOf8_short {short : List Byte}
    (h1 : ∀ b0 b1 b2 b3 b4 b5 b6 b7 rest, short = b0 :: b1 :: b2 :: b3 :: b4 :: b5 :: b6 :: b7 :: rest → False)
    (h2 : short = [] → False) : chunksOf8 short = [short] := by
  rw [chunksOf8]
  · exact h1
  · exact h2

/-- The chunks in order are the bytes. -/
theorem chunksOf8_flatten (bs : List Byte) : (chunksOf8 bs).flatten = bs := by
  induction bs using chunksOf8.induct with
  | case1 b0 b1 b2 b3 b4 b5 b6 b7 rest ih => simp [chunksOf8, ih]
  | case2 => rfl
  | case3 short h1 h2 => rw [chunksOf8_short h1 h2]; simp

/-- No chunk holds more than 8 bytes. -/
theorem length_le_of_mem_chunksOf8 (bs : List Byte) : ∀ c ∈ chunksOf8 bs, c.length ≤ 8 := by
  induction bs using chunksOf8.induct with
  | case1 b0 b1 b2 b3 b4 b5 b6 b7 rest ih =>
    intro c hc
    rw [chunksOf8, List.mem_cons] at hc
    rcases hc with rfl | hc
    · exact Nat.le_refl 8
    · exact ih c hc
  | case2 => intro c hc; cases hc
  | case3 short h1 h2 =>
    intro c hc
    rw [chunksOf8_short h1 h2, List.mem_singleton] at hc
    subst hc
    match c, h1 with
    | [], _ => exact Nat.zero_le 8
    | [_], _ => exact Nat.le_of_ble_eq_true rfl
    | [_, _], _ => exact Nat.le_of_ble_eq_true rfl
    | [_, _, _], _ => exact Nat.le_of_ble_eq_true rfl
    | [_, _, _, _], _ => exact Nat.le_of_ble_eq_true rfl
    | [_, _, _, _, _], _ => exact Nat.le_of_ble_eq_true rfl
    | [_, _, _, _, _, _], _ => exact Nat.le_of_ble_eq_true rfl
    | [_, _, _, _, _, _, _], _ => exact Nat.le_of_ble_eq_true rfl
    | _ :: _ :: _ :: _ :: _ :: _ :: _ :: _ :: _, h1 => exact absurd rfl (h1 _ _ _ _ _ _ _ _ _)

end Sys2Proof.Asm
end

