-- ==== Sys2Proof/Laws/Bytes.lean ====
section
/-! SUPPORT. Bytes of payloads and of request words (20_memory.md R41, R43, R46). -/

namespace Sys2Proof.Machine

/-- A payload is equal to another when its eight bytes are. -/
theorem payload_ext {p q : Payload} (h : ∀ i < 8, byteAt p i = byteAt q i) : p = q := by
  apply BitVec.eq_of_getLsbD_eq
  intro j hj
  have hb := congrArg (fun x : Byte => x.getLsbD (j % 8)) (h (j / 8) (by omega))
  simp only [byteAt, BitVec.getLsbD_extractLsb'] at hb
  have h8 : j % 8 < 8 := Nat.mod_lt _ (by decide)
  have hj' : 8 * (j / 8) + j % 8 = j := Nat.div_add_mod j 8
  simpa [h8, hj'] using hb

/-- Byte `i` of a packed payload is the `i`-th byte packed. -/
theorem byteAt_packBytes (f : Nat → Byte) {i : Nat} (h : i < 8) : byteAt (packBytes f) i = f i := by
  unfold byteAt packBytes
  interval_cases i <;>
    repeat first
      | exact BitVec.extractLsb'_eq_self
      | exact (BitVec.extractLsb'_append_eq_of_add_le (by decide)).trans BitVec.extractLsb'_eq_self
      | refine (BitVec.extractLsb'_append_eq_of_le (by decide)).trans ?_

/-- Packing a payload's own bytes gives the payload back. -/
theorem packBytes_byteAt (p : Payload) : packBytes (byteAt p) = p :=
  payload_ext fun _ hi => byteAt_packBytes _ hi

/-- Byte `i` of a padded frame. -/
theorem byteAt_paddedFrame (t : List Byte) {i : Nat} (h : i < 8) : byteAt (paddedFrame t) i = t.getD i 0 :=
  byteAt_packBytes _ h

@[simp] theorem payloadBytes_length (p : Payload) : (payloadBytes p).length = 8 := by simp [payloadBytes]

/-- The bytes of a packed payload, in order. -/
theorem payloadBytes_packBytes (f : Nat → Byte) : payloadBytes (packBytes f) = (List.range 8).map f := by
  unfold payloadBytes
  apply List.map_congr_left
  intro i hi
  exact byteAt_packBytes f (List.mem_range.mp hi)

/-- The bytes a count covers, when the payload was packed from a list of that many bytes. -/
theorem payloadBytes_paddedFrame_take (t : List Byte) (h : t.length ≤ 8) :
    (payloadBytes (paddedFrame t)).take t.length = t := by
  rw [paddedFrame, payloadBytes_packBytes]
  apply List.ext_getElem
  · simp [h]
  · intro i h1 h2
    simp [h2]

end Sys2Proof.Machine

namespace Sys2Proof

open Sys2Proof.Machine

@[simp] theorem bytesOfWord_length (q : Word128) : (bytesOfWord q).length = 16 := by simp [bytesOfWord]

/-- The bytes of a request word in the order of R43: `OP, K, A, B`, then `W`, then `P`, least significant byte first. -/
theorem bytesOfWord_requestWord (op k : Byte) (r : Operands) :
    bytesOfWord (requestWord op k r) =
      [op, k, r.a, r.b, r.w.extractLsb' 0 8, r.w.extractLsb' 8 8, r.w.extractLsb' 16 8, r.w.extractLsb' 24 8]
      ++ payloadBytes r.p := by
  simp only [bytesOfWord, payloadBytes, List.range, List.range.loop, List.map, List.cons_append, List.nil_append,
    List.cons.injEq, and_true]
  unfold wordByte requestWord byteAt
  refine ⟨?_, ?_, ?_, ?_, ?_, ?_, ?_, ?_, ?_, ?_, ?_, ?_, ?_, ?_, ?_, ?_⟩ <;>
    repeat first
      | rfl
      | exact BitVec.extractLsb'_eq_self
      | exact BitVec.extractLsb'_append_eq_of_add_le (by decide)
      | exact (BitVec.extractLsb'_append_eq_of_add_le (by decide)).trans BitVec.extractLsb'_eq_self
      | refine (BitVec.extractLsb'_append_eq_of_le (by decide)).trans ?_

end Sys2Proof
end

