-- ==== Sys2Proof/Laws/Operands.lean ====
section
/-! SUPPORT. The operand fields of a request against their numbers: reserved parts of `W` (30_encoding.md R64), identifiers in
wider fields (R77), and values carried in frames (20_memory.md R44 to R46). -/

namespace Sys2Proof.Machine

/-- `W[31:16]` is 0 exactly when `W` fits in 16 bits. -/
theorem highHalf_eq_zero_iff (w : Word32) : highHalf w = 0 ↔ w.toNat < 0x10000 := by
  rw [highHalf, ← BitVec.toNat_inj]
  simp [BitVec.extractLsb'_toNat, Nat.shiftRight_eq_div_pow]
  omega

/-- `W[31:11]` is 0 exactly when `W` fits in 11 bits. -/
theorem aboveId_eq_zero_iff (w : Word32) : aboveId w = 0 ↔ w.toNat < 0x800 := by
  rw [aboveId, ← BitVec.toNat_inj]
  simp [BitVec.extractLsb'_toNat, Nat.shiftRight_eq_div_pow]
  omega

theorem lowHalf_eq_setWidth (w : Word32) : lowHalf w = w.setWidth 16 := by
  simp [lowHalf, BitVec.setWidth_eq_extractLsb']

theorem idField_eq_setWidth (w : Word32) : idField w = w.setWidth 11 := by
  simp [idField, BitVec.setWidth_eq_extractLsb']

/-- Zero extension is zero bits above the value. -/
theorem zext32_eq_append {m n : Nat} (h : m + n = 32) (x : BitVec n) : zext32 x = ((0 : BitVec m) ++ x).cast h := by
  apply BitVec.eq_of_getLsbD_eq
  intro i hi
  simp only [zext32, BitVec.getLsbD_setWidth, BitVec.getLsbD_cast, BitVec.getLsbD_append, hi, decide_true, Bool.true_and]
  split
  · rfl
  · rw [BitVec.getLsbD_of_ge _ _ (by omega)]; simp

/-- Zero extension of an identifier (R77). -/
theorem zext32_canId (x : CanId) : zext32 x = (0 : BitVec 21) ++ x := zext32_eq_append (m := 21) rfl x

/-- Zero extension of a CRC16 value (R77). -/
theorem zext32_half (x : BitVec 16) : zext32 x = (0 : BitVec 16) ++ x := zext32_eq_append (m := 16) rfl x

/-- Zero extension of a byte. -/
theorem zext32_byte (x : Byte) : zext32 x = (0 : BitVec 24) ++ x := zext32_eq_append (m := 24) rfl x

/-- The bytes a legal count covers are `P[0] .. P[B-1]` (R67). -/
theorem countedBytes_eq (r : Operands) (h : r.b.toNat ≤ 8) :
    countedBytes r = (List.range r.b.toNat).map (byteAt r.p) := by
  rw [countedBytes, payloadBytes, ← List.map_take, List.take_range, Nat.min_eq_left h]

end Sys2Proof.Machine
end

