-- ==== Sys2Proof/Laws/State.lean ====
section
/-! SUPPORT. One lemma per field per update of the state, each true by definition, so that no later proof unfolds a record
update. -/

namespace Sys2Proof.Machine

@[simp] theorem State.respond_acc16 (s : State) (x : Response) : (State.respond s x).acc16 = s.acc16 := rfl
@[simp] theorem State.respond_v16 (s : State) (x : Response) : (State.respond s x).v16 = s.v16 := rfl
@[simp] theorem State.respond_acc32 (s : State) (x : Response) : (State.respond s x).acc32 = s.acc32 := rfl
@[simp] theorem State.respond_v32 (s : State) (x : Response) : (State.respond s x).v32 = s.v32 := rfl
@[simp] theorem State.respond_cfg (s : State) (x : Response) : (State.respond s x).cfg = s.cfg := rfl
@[simp] theorem State.respond_port (s : State) (x : Response) : (State.respond s x).port = s.port := rfl
@[simp] theorem State.respond_rsp (s : State) (x : Response) : (State.respond s x).rsp = some x := rfl
@[simp] theorem State.respond_resets (s : State) (x : Response) : (State.respond s x).resets = s.resets := rfl

@[simp] theorem State.raise_acc16 (s : State) (x : Response) : (State.raise s x).acc16 = s.acc16 := rfl
@[simp] theorem State.raise_v16 (s : State) (x : Response) : (State.raise s x).v16 = s.v16 := rfl
@[simp] theorem State.raise_acc32 (s : State) (x : Response) : (State.raise s x).acc32 = s.acc32 := rfl
@[simp] theorem State.raise_v32 (s : State) (x : Response) : (State.raise s x).v32 = s.v32 := rfl
@[simp] theorem State.raise_cfg (s : State) (x : Response) : (State.raise s x).cfg = s.cfg := rfl
@[simp] theorem State.raise_port (s : State) (x : Response) : (State.raise s x).port = s.port := rfl
@[simp] theorem State.raise_rsp (s : State) (x : Response) : (State.raise s x).rsp = some x := rfl
@[simp] theorem State.raise_resets (s : State) (x : Response) : (State.raise s x).resets = s.resets := rfl

@[simp] theorem State.setAcc16_acc16 (s : State) (x : BitVec 16) : (State.setAcc16 s x).acc16 = x := rfl
@[simp] theorem State.setAcc16_v16 (s : State) (x : BitVec 16) : (State.setAcc16 s x).v16 = s.v16 := rfl
@[simp] theorem State.setAcc16_acc32 (s : State) (x : BitVec 16) : (State.setAcc16 s x).acc32 = s.acc32 := rfl
@[simp] theorem State.setAcc16_v32 (s : State) (x : BitVec 16) : (State.setAcc16 s x).v32 = s.v32 := rfl
@[simp] theorem State.setAcc16_cfg (s : State) (x : BitVec 16) : (State.setAcc16 s x).cfg = s.cfg := rfl
@[simp] theorem State.setAcc16_port (s : State) (x : BitVec 16) : (State.setAcc16 s x).port = s.port := rfl
@[simp] theorem State.setAcc16_rsp (s : State) (x : BitVec 16) : (State.setAcc16 s x).rsp = s.rsp := rfl
@[simp] theorem State.setAcc16_resets (s : State) (x : BitVec 16) : (State.setAcc16 s x).resets = s.resets := rfl

@[simp] theorem State.initAcc16_acc16 (s : State) (x : BitVec 16) : (State.initAcc16 s x).acc16 = x := rfl
@[simp] theorem State.initAcc16_v16 (s : State) (x : BitVec 16) : (State.initAcc16 s x).v16 = true := rfl
@[simp] theorem State.initAcc16_acc32 (s : State) (x : BitVec 16) : (State.initAcc16 s x).acc32 = s.acc32 := rfl
@[simp] theorem State.initAcc16_v32 (s : State) (x : BitVec 16) : (State.initAcc16 s x).v32 = s.v32 := rfl
@[simp] theorem State.initAcc16_cfg (s : State) (x : BitVec 16) : (State.initAcc16 s x).cfg = s.cfg := rfl
@[simp] theorem State.initAcc16_port (s : State) (x : BitVec 16) : (State.initAcc16 s x).port = s.port := rfl
@[simp] theorem State.initAcc16_rsp (s : State) (x : BitVec 16) : (State.initAcc16 s x).rsp = s.rsp := rfl
@[simp] theorem State.initAcc16_resets (s : State) (x : BitVec 16) : (State.initAcc16 s x).resets = s.resets := rfl

@[simp] theorem State.setAcc32_acc16 (s : State) (x : BitVec 32) : (State.setAcc32 s x).acc16 = s.acc16 := rfl
@[simp] theorem State.setAcc32_v16 (s : State) (x : BitVec 32) : (State.setAcc32 s x).v16 = s.v16 := rfl
@[simp] theorem State.setAcc32_acc32 (s : State) (x : BitVec 32) : (State.setAcc32 s x).acc32 = x := rfl
@[simp] theorem State.setAcc32_v32 (s : State) (x : BitVec 32) : (State.setAcc32 s x).v32 = s.v32 := rfl
@[simp] theorem State.setAcc32_cfg (s : State) (x : BitVec 32) : (State.setAcc32 s x).cfg = s.cfg := rfl
@[simp] theorem State.setAcc32_port (s : State) (x : BitVec 32) : (State.setAcc32 s x).port = s.port := rfl
@[simp] theorem State.setAcc32_rsp (s : State) (x : BitVec 32) : (State.setAcc32 s x).rsp = s.rsp := rfl
@[simp] theorem State.setAcc32_resets (s : State) (x : BitVec 32) : (State.setAcc32 s x).resets = s.resets := rfl

@[simp] theorem State.initAcc32_acc16 (s : State) (x : BitVec 32) : (State.initAcc32 s x).acc16 = s.acc16 := rfl
@[simp] theorem State.initAcc32_v16 (s : State) (x : BitVec 32) : (State.initAcc32 s x).v16 = s.v16 := rfl
@[simp] theorem State.initAcc32_acc32 (s : State) (x : BitVec 32) : (State.initAcc32 s x).acc32 = x := rfl
@[simp] theorem State.initAcc32_v32 (s : State) (x : BitVec 32) : (State.initAcc32 s x).v32 = true := rfl
@[simp] theorem State.initAcc32_cfg (s : State) (x : BitVec 32) : (State.initAcc32 s x).cfg = s.cfg := rfl
@[simp] theorem State.initAcc32_port (s : State) (x : BitVec 32) : (State.initAcc32 s x).port = s.port := rfl
@[simp] theorem State.initAcc32_rsp (s : State) (x : BitVec 32) : (State.initAcc32 s x).rsp = s.rsp := rfl
@[simp] theorem State.initAcc32_resets (s : State) (x : BitVec 32) : (State.initAcc32 s x).resets = s.resets := rfl

@[simp] theorem State.afterReset_acc16 (s : State) (x : List PortEvent) : (State.afterReset s x).acc16 = Config.freeAcc16 s.resets := rfl
@[simp] theorem State.afterReset_v16 (s : State) (x : List PortEvent) : (State.afterReset s x).v16 = false := rfl
@[simp] theorem State.afterReset_acc32 (s : State) (x : List PortEvent) : (State.afterReset s x).acc32 = Config.freeAcc32 s.resets := rfl
@[simp] theorem State.afterReset_v32 (s : State) (x : List PortEvent) : (State.afterReset s x).v32 = false := rfl
@[simp] theorem State.afterReset_cfg (s : State) (x : List PortEvent) : (State.afterReset s x).cfg = s.cfg := rfl
@[simp] theorem State.afterReset_port (s : State) (x : List PortEvent) : (State.afterReset s x).port = x := rfl
@[simp] theorem State.afterReset_rsp (s : State) (x : List PortEvent) : (State.afterReset s x).rsp = none := rfl
@[simp] theorem State.afterReset_resets (s : State) (x : List PortEvent) : (State.afterReset s x).resets = s.resets + 1 := rfl

@[simp] theorem State.powerUp_acc16 (c : LegalCfg) : (State.powerUp c).acc16 = 0 := rfl
@[simp] theorem State.powerUp_v16 (c : LegalCfg) : (State.powerUp c).v16 = false := rfl
@[simp] theorem State.powerUp_acc32 (c : LegalCfg) : (State.powerUp c).acc32 = 0 := rfl
@[simp] theorem State.powerUp_v32 (c : LegalCfg) : (State.powerUp c).v32 = false := rfl
@[simp] theorem State.powerUp_cfg (c : LegalCfg) : (State.powerUp c).cfg = c := rfl
@[simp] theorem State.powerUp_port (c : LegalCfg) : (State.powerUp c).port = [] := rfl
@[simp] theorem State.powerUp_rsp (c : LegalCfg) : (State.powerUp c).rsp = none := rfl
@[simp] theorem State.powerUp_resets (c : LegalCfg) : (State.powerUp c).resets = 0 := rfl

@[simp] theorem State.withFetchWord_acc16 (s : State) (nbits w : Nat) : (s.withFetchWord nbits w).acc16 = s.acc16 := rfl
@[simp] theorem State.withFetchWord_v16 (s : State) (nbits w : Nat) : (s.withFetchWord nbits w).v16 = s.v16 := rfl
@[simp] theorem State.withFetchWord_acc32 (s : State) (nbits w : Nat) : (s.withFetchWord nbits w).acc32 = s.acc32 := rfl
@[simp] theorem State.withFetchWord_v32 (s : State) (nbits w : Nat) : (s.withFetchWord nbits w).v32 = s.v32 := rfl
@[simp] theorem State.withFetchWord_cfg (s : State) (nbits w : Nat) : (s.withFetchWord nbits w).cfg = s.cfg := rfl
@[simp] theorem State.withFetchWord_port (s : State) (nbits w : Nat) : (s.withFetchWord nbits w).port = byteEvents (bytesOfWord (tableWord nbits w)) ++ s.port := rfl
@[simp] theorem State.withFetchWord_rsp (s : State) (nbits w : Nat) : (s.withFetchWord nbits w).rsp = s.rsp := rfl
@[simp] theorem State.withFetchWord_resets (s : State) (nbits w : Nat) : (s.withFetchWord nbits w).resets = s.resets := rfl

@[simp] theorem okResponse_st (v : Word32) (f : Payload) : (okResponse v f).st = .ok := rfl
@[simp] theorem okResponse_fld (v : Word32) (f : Payload) : (okResponse v f).fld = .none := rfl
@[simp] theorem okResponse_v (v : Word32) (f : Payload) : (okResponse v f).v = v := rfl
@[simp] theorem okResponse_f (v : Word32) (f : Payload) : (okResponse v f).f = f := rfl
@[simp] theorem okDone_st : okDone.st = .ok := rfl
@[simp] theorem idMismatchResponse_st : idMismatchResponse.st = .idMismatch := rfl
@[simp] theorem validationFailed_st (d : Field) (e a : Byte) : (validationFailed d e a).st = .validationFailed := rfl
@[simp] theorem validationFailed_fld (d : Field) (e a : Byte) : (validationFailed d e a).fld = d := rfl
@[simp] theorem unsupportedParameter_st (d : Field) (v : Word32) :
    (unsupportedParameter d v).st = .unsupportedParameter := rfl
@[simp] theorem unsupportedParameter_fld (d : Field) (v : Word32) : (unsupportedParameter d v).fld = d := rfl
@[simp] theorem illegalRequest_st (d : Field) : (illegalRequest d).st = .illegalRequest := rfl
@[simp] theorem illegalRequest_fld (d : Field) : (illegalRequest d).fld = d := rfl
@[simp] theorem notInitialised_st (d : Field) : (notInitialised d).st = .notInitialised := rfl
@[simp] theorem notInitialised_fld (d : Field) : (notInitialised d).fld = d := rfl

end Sys2Proof.Machine
end

