-- ==== Sys2Proof/Laws/Ops.lean ====
section
/-! SUPPORT. What each shared operation can do, said once: the checks of an operation, taking a request from the port, and a
step. -/

namespace Sys2Proof.Machine

@[simp] theorem firstFailing_nil : firstFailing [] = none := rfl

@[simp] theorem firstFailing_cons (b : Bool) (e : Response) (cs : List Check) :
    firstFailing ((b, e) :: cs) = if b then some e else firstFailing cs := rfl

/-- The response of the first failing check is that of a check of the list. -/
theorem firstFailing_mem {cs : List Check} {e : Response} (h : firstFailing cs = some e) : (true, e) ∈ cs := by
  induction cs with
  | nil => simp at h
  | cons c cs ih =>
    obtain ⟨b, x⟩ := c
    cases b
    · exact List.mem_cons_of_mem _ (ih (by simpa using h))
    · simp_all

/-- No check fails. -/
theorem firstFailing_none {cs : List Check} (h : firstFailing cs = none) : ∀ c ∈ cs, c.1 = false := by
  induction cs with
  | nil => simp
  | cons c cs ih =>
    obtain ⟨b, x⟩ := c
    cases b
    · simpa using ih (by simpa using h)
    · simp at h

/-- All that running checks can do: one of them is raised, or all pass and the outcome is `done`. -/
theorem State.answer_cases (s : State) (cs : List Check) (done : State) :
    (∃ e, firstFailing cs = some e ∧ s.answer cs done = s.raise e) ∨
    (firstFailing cs = none ∧ s.answer cs done = done) := by
  cases h : firstFailing cs with
  | none => exact .inr ⟨rfl, by simp [State.answer, h]⟩
  | some e => exact .inl ⟨e, rfl, by simp [State.answer, h]⟩

@[simp] theorem State.answer_nil (s done : State) : s.answer [] done = done := rfl

@[simp] theorem State.answer_cons (s : State) (b : Bool) (e : Response) (cs : List Check) (done : State) :
    s.answer ((b, e) :: cs) done = if b then s.raise e else s.answer cs done := by
  cases b <;> rfl

/-- When passing the checks is only another response, running them is only a response. -/
theorem State.answer_respond (s : State) (cs : List Check) (r : Response) :
    s.answer cs (s.respond r) = s.respond ((firstFailing cs).getD r) := by
  unfold State.answer
  cases firstFailing cs <;> rfl

/-- All that building a block can do: it succeeds exactly for a legal configuration, with the block right after power-up. -/
theorem State.build_eq_next_iff {c : Cfg} {s : State} :
    State.build c = .next s ↔ ∃ h : c.legal = true, s = State.powerUp ⟨c, h⟩ := by
  unfold State.build
  split
  · rename_i h
    constructor
    · rintro ⟨⟩
      exact ⟨h, rfl⟩
    · rintro ⟨_, rfl⟩
      rfl
  · rename_i h
    constructor
    · rintro ⟨⟩
    · rintro ⟨h', _⟩
      exact absurd h' h

/-- All that collecting bytes can do, for any port. -/
theorem takeBytes_cases (n : Nat) (got : List Byte) (port : List PortEvent) :
    (∃ bs, port = byteEvents bs ∧ bs.length < n ∧ takeBytes n got port = .waiting) ∨
    (∃ bs rest, port = byteEvents bs ++ .reset :: rest ∧ bs.length < n ∧ takeBytes n got port = .reset rest) ∨
    (∃ bs rest, port = byteEvents bs ++ rest ∧ bs.length = n ∧ takeBytes n got port = .request (got ++ bs) rest) := by
  induction n generalizing got port with
  | zero => exact .inr (.inr ⟨[], port, rfl, rfl, by simp [takeBytes]⟩)
  | succ n ih =>
    match port with
    | [] => exact .inl ⟨[], rfl, by simp, rfl⟩
    | .reset :: rest => exact .inr (.inl ⟨[], rest, rfl, by simp, rfl⟩)
    | .byte b :: rest =>
      rcases ih (got ++ [b]) rest with ⟨bs, rfl, hl, h⟩ | ⟨bs, r, rfl, hl, h⟩ | ⟨bs, r, rfl, hl, h⟩
      · exact .inl ⟨b :: bs, rfl, by simp [hl], by simpa [takeBytes] using h⟩
      · exact .inr (.inl ⟨b :: bs, r, rfl, by simp [hl], by simpa [takeBytes] using h⟩)
      · exact .inr (.inr ⟨b :: bs, r, rfl, by simp [hl], by simpa [takeBytes] using h⟩)

/-- The bytes at the head of the port are the ones collected. -/
theorem takeBytes_request (got bs : List Byte) (rest : List PortEvent) :
    takeBytes bs.length got (byteEvents bs ++ rest) = .request (got ++ bs) rest := by
  induction bs generalizing got with
  | nil => simp [takeBytes, byteEvents]
  | cons b bs ih => simpa [takeBytes, byteEvents] using ih (got ++ [b])

/-- Fewer bytes than needed, then a reset. -/
theorem takeBytes_reset (n : Nat) (got bs : List Byte) (rest : List PortEvent) (h : bs.length < n) :
    takeBytes n got (byteEvents bs ++ .reset :: rest) = .reset rest := by
  induction bs generalizing got n with
  | nil => cases n with
    | zero => simp at h
    | succ n => rfl
  | cons b bs ih => cases n with
    | zero => simp at h
    | succ n => simpa [takeBytes, byteEvents] using ih n (got ++ [b]) (by simpa using h)

/-- Fewer bytes than needed, and nothing after them. -/
theorem takeBytes_waiting (n : Nat) (got bs : List Byte) (h : bs.length < n) :
    takeBytes n got (byteEvents bs) = .waiting := by
  induction bs generalizing got n with
  | nil => cases n with
    | zero => simp at h
    | succ n => rfl
  | cons b bs ih => cases n with
    | zero => simp at h
    | succ n => simpa [takeBytes, byteEvents] using ih n (got ++ [b]) (by simpa using h)

/-- All that taking a request can do. -/
theorem takeRequest_cases (port : List PortEvent) :
    (∃ bs, port = byteEvents bs ∧ bs.length < 16 ∧ takeRequest port = .waiting) ∨
    (∃ bs rest, port = byteEvents bs ++ .reset :: rest ∧ bs.length < 16 ∧ takeRequest port = .reset rest) ∨
    (∃ bs rest, port = byteEvents bs ++ rest ∧ bs.length = 16 ∧ takeRequest port = .request bs rest) := by
  simpa [takeRequest] using takeBytes_cases 16 [] port

/-- The 16 bytes at the head of the port are the next request. -/
theorem takeRequest_request (bs : List Byte) (rest : List PortEvent) (h : bs.length = 16) :
    takeRequest (byteEvents bs ++ rest) = .request bs rest := by
  have := takeBytes_request [] bs rest
  rw [h] at this
  simpa [takeRequest] using this

/-- All that a step can do. -/
theorem step_cases (s : State) :
    (takeRequest s.port = .waiting ∧ step s = .next s) ∨
    (∃ rest, takeRequest s.port = .reset rest ∧ step s = .next (s.afterReset rest)) ∨
    (∃ bs rest i, takeRequest s.port = .request bs rest ∧ decode bs = .ok i ∧ step s = exec i { s with port := rest }) ∨
    (∃ bs rest e, takeRequest s.port = .request bs rest ∧ decode bs = .error e ∧
      step s = .next (State.raise { s with port := rest } (decodeErrorResponse e))) := by
  unfold step
  cases h : takeRequest s.port with
  | waiting => exact .inl ⟨rfl, rfl⟩
  | reset rest => exact .inr (.inl ⟨rest, rfl, rfl⟩)
  | request bs rest =>
    cases hd : decode bs with
    | ok i => exact .inr (.inr (.inl ⟨bs, rest, i, rfl, hd, by simp [hd]⟩))
    | error e => exact .inr (.inr (.inr ⟨bs, rest, e, rfl, hd, by simp [hd]⟩))

end Sys2Proof.Machine
end

