-- ==== Sys2Proof/Laws/Codec.lean ====
section
/-! SUPPORT. What the shared operations of the frame codec can do, said once: the layout of an encoder's frame
(41_frame_codec.md R143), little-endian reads (20_memory.md R44, R46), the bytes of an extraction (R142) and of a template
frame (R132), and all outcomes of the encoder (R143) and of the validator (R135). -/

namespace Sys2Proof.Machine

/-! ### Layouts -/

/-- Two neighbouring slices of a payload are one slice. -/
theorem extractLsb'_append_below (p : Payload) (a m n : Nat) :
    p.extractLsb' (a + n) m ++ p.extractLsb' a n = p.extractLsb' a (m + n) := by
  apply BitVec.eq_of_getLsbD_eq
  intro i hi
  rw [BitVec.getLsbD_append]
  simp only [BitVec.getLsbD_extractLsb']
  by_cases h : i < n
  · simp [h, hi]
  · simp [h, hi, show i - n < m by omega, show a + n + (i - n) = a + i by omega]

/-- Two payload bytes as a little-endian number are 16 bits of the payload. -/
theorem le16_byteAt (p : Payload) (i : Nat) :
    le16 (byteAt p i) (byteAt p (i + 1)) = p.extractLsb' (8 * i) 16 :=
  extractLsb'_append_below p (8 * i) 8 8

/-- Four payload bytes as a little-endian number are 32 bits of the payload. -/
theorem le32_byteAt (p : Payload) (i : Nat) :
    le32 (byteAt p i) (byteAt p (i + 1)) (byteAt p (i + 2)) (byteAt p (i + 3)) = p.extractLsb' (8 * i) 32 := by
  have h1 := extractLsb'_append_below p (8 * i + 16) 8 8
  have h2 := extractLsb'_append_below p (8 * i + 8) 16 8
  have h3 := extractLsb'_append_below p (8 * i) 24 8
  unfold le32 byteAt
  rw [show 8 * (i + 1) = 8 * i + 8 by omega, show 8 * (i + 2) = 8 * i + 8 + 8 by omega,
    show 8 * (i + 3) = 8 * i + 16 + 8 by omega]
  exact (congrArg (· ++ p.extractLsb' (8 * i) 8)
    ((congrArg (· ++ p.extractLsb' (8 * i + 8) 8) h1).trans h2)).trans h3

/-- A frame without data bytes, as one number. -/
theorem commandFrame_nil (a o : Byte) :
    commandFrame a o [] = (0 : BitVec 40) ++ o ++ a ++ (0x02 : Byte) := by
  apply payload_ext; intro i hi
  rw [commandFrame, byteAt_paddedFrame _ hi]; unfold byteAt; symm
  interval_cases i <;>
    repeat first
      | rfl
      | exact BitVec.extractLsb'_eq_self
      | exact BitVec.extractLsb'_append_eq_of_add_le (by decide)
      | exact (BitVec.extractLsb'_append_eq_of_add_le (by decide)).trans BitVec.extractLsb'_eq_self
      | refine (BitVec.extractLsb'_append_eq_of_le (by decide)).trans ?_

/-- A frame with a 16-bit argument, as one number. -/
theorem commandFrame_half (a o : Byte) (w : Word32) :
    commandFrame a o (leBytes2 (lowHalf w)) = (0 : BitVec 24) ++ w.setWidth 16 ++ o ++ a ++ (0x04 : Byte) := by
  rw [← lowHalf_eq_setWidth]
  apply payload_ext; intro i hi
  rw [commandFrame, byteAt_paddedFrame _ hi]; unfold byteAt leBytes2; symm
  interval_cases i <;>
    repeat first
      | rfl
      | exact BitVec.extractLsb'_eq_self
      | exact BitVec.extractLsb'_append_eq_of_add_le (by decide)
      | exact (BitVec.extractLsb'_append_eq_of_add_le (by decide)).trans BitVec.extractLsb'_eq_self
      | refine (BitVec.extractLsb'_append_eq_of_le (by decide)).trans ?_

/-- A frame with a 32-bit argument, as one number. -/
theorem commandFrame_word (a o : Byte) (w : Word32) :
    commandFrame a o (leBytes4 w) = (0 : BitVec 8) ++ w ++ o ++ a ++ (0x06 : Byte) := by
  apply payload_ext; intro i hi
  rw [commandFrame, byteAt_paddedFrame _ hi]; unfold byteAt leBytes4; symm
  interval_cases i <;>
    repeat first
      | rfl
      | exact BitVec.extractLsb'_eq_self
      | exact BitVec.extractLsb'_append_eq_of_add_le (by decide)
      | exact (BitVec.extractLsb'_append_eq_of_add_le (by decide)).trans BitVec.extractLsb'_eq_self
      | refine (BitVec.extractLsb'_append_eq_of_le (by decide)).trans ?_

/-- The VERIFY_ALL frame for CRC16, as one number. -/
theorem commandFrame_verifyAll16 (a o : Byte) (w : Word32) :
    commandFrame a o (0x00 :: leBytes2 (lowHalf w)) =
      (0 : BitVec 16) ++ w.setWidth 16 ++ (0x00 : Byte) ++ o ++ a ++ (0x05 : Byte) := by
  rw [← lowHalf_eq_setWidth]
  apply payload_ext; intro i hi
  rw [commandFrame, byteAt_paddedFrame _ hi]; unfold byteAt leBytes2; symm
  interval_cases i <;>
    repeat first
      | rfl
      | exact BitVec.extractLsb'_eq_self
      | exact BitVec.extractLsb'_append_eq_of_add_le (by decide)
      | exact (BitVec.extractLsb'_append_eq_of_add_le (by decide)).trans BitVec.extractLsb'_eq_self
      | refine (BitVec.extractLsb'_append_eq_of_le (by decide)).trans ?_

/-- The VERIFY_ALL frame for CRC32, as one number. -/
theorem commandFrame_verifyAll32 (a o : Byte) (w : Word32) :
    commandFrame a o (0x01 :: leBytes4 w) = w ++ (0x01 : Byte) ++ o ++ a ++ (0x07 : Byte) := by
  apply payload_ext; intro i hi
  rw [commandFrame, byteAt_paddedFrame _ hi]; unfold byteAt leBytes4; symm
  interval_cases i <;>
    repeat first
      | rfl
      | exact BitVec.extractLsb'_eq_self
      | exact BitVec.extractLsb'_append_eq_of_add_le (by decide)
      | exact (BitVec.extractLsb'_append_eq_of_add_le (by decide)).trans BitVec.extractLsb'_eq_self
      | refine (BitVec.extractLsb'_append_eq_of_le (by decide)).trans ?_

/-- Byte `i` of the extracted data bytes (R142). -/
theorem byteAt_dataBytes (len : Byte) (p : Payload) {i : Nat} (hi : i < 8) :
    byteAt (dataBytes len p) i = if i + 2 < len.toNat then byteAt p (i + 3) else 0x00 := by
  rw [dataBytes, byteAt_packBytes _ hi, show 3 + i = i + 3 by omega]
  by_cases h : i + 2 < len.toNat
  · rw [if_pos h, if_pos (by omega)]
  · rw [if_neg h, if_neg (by omega)]

/-- Byte `i` of a template frame (R132). -/
theorem byteAt_templateFrame (addr : Byte) (n : Nat) (t : Payload) {i : Nat} (hi : i < 8) :
    byteAt (templateFrame addr n t) i = if i = 1 then addr else if i < n then byteAt t i else 0x00 :=
  byteAt_packBytes _ hi

/-! ### Outcomes -/

/-- All that the encoder can do (R143). -/
theorem encCommand_cases (c : Cmd) (cs : List Check) (d : List Byte) (r : Operands) (s : State) :
    (r.p ≠ 0 ∧ encCommand c cs d r s = s.raise (illegalRequest .reserved)) ∨
    (∃ e, r.p = 0 ∧ firstFailing cs = some e ∧ encCommand c cs d r s = s.raise e) ∨
    (r.p = 0 ∧ firstFailing cs = none ∧
      encCommand c cs d r s =
        s.respond (okResponse (zext32 s.cfg.raw.cmdId) (commandFrame r.a (s.cfg.raw.opcOf c) d))) := by
  by_cases hp : r.p = 0
  · have h1 : (r.p != 0) = false := by rw [hp]; rfl
    rcases State.answer_cases s cs (s.respond (okResponse (zext32 s.cfg.raw.cmdId)
        (commandFrame r.a (s.cfg.raw.opcOf c) d))) with ⟨e, he, h⟩ | ⟨he, h⟩
    · exact .inr (.inl ⟨e, hp, he, by rw [encCommand, reservedCheck, h1]; exact h⟩)
    · exact .inr (.inr ⟨hp, he, by rw [encCommand, reservedCheck, h1]; exact h⟩)
  · have h1 : (r.p != 0) = true := bne_iff_ne.mpr hp
    exact .inl ⟨hp, by rw [encCommand, reservedCheck, h1]; rfl⟩

/-- All that the validator can do (R135): a reserved field, the identifier, the length, the status, the command check, or
acceptance. -/
theorem decResponse_cases (c : RspCmd) (k : RspCheck) (ex : Payload → Word32) (r : Operands) (s : State) :
    (¬ (r.a = 0 ∧ r.b = 0 ∧ r.w.toNat < 0x800) ∧ decResponse c k ex r s = s.raise (illegalRequest .reserved)) ∨
    ((r.a = 0 ∧ r.b = 0 ∧ r.w.toNat < 0x800) ∧
      ((r.w.setWidth 11 ≠ s.cfg.raw.rspId ∧ decResponse c k ex r s = s.raise idMismatchResponse) ∨
       (r.w.setWidth 11 = s.cfg.raw.rspId ∧
        ((byteAt r.p 0 ≠ s.cfg.raw.rspLenOf c ∧
            decResponse c k ex r s = s.raise (validationFailed .length (s.cfg.raw.rspLenOf c) (byteAt r.p 0))) ∨
         (byteAt r.p 0 = s.cfg.raw.rspLenOf c ∧
          ((byteAt r.p 2 ≠ expectedStatus s.cfg.raw c ∧
              decResponse c k ex r s = s.raise (validationFailed .status (expectedStatus s.cfg.raw c) (byteAt r.p 2))) ∨
           (byteAt r.p 2 = expectedStatus s.cfg.raw c ∧
            decResponse c k ex r s =
              s.answer (k.checks r.p)
                (s.respond (okResponse (ex r.p) (dataBytes (s.cfg.raw.rspLenOf c) r.p)))))))))) := by
  have ha := aboveId_eq_zero_iff r.w
  have hi := idField_eq_setWidth r.w
  by_cases h0 : r.a = 0 ∧ r.b = 0 ∧ aboveId r.w = 0
  · have hz : (r.a != 0 || r.b != 0 || aboveId r.w != 0) = false := by rw [h0.1, h0.2.1, h0.2.2]; rfl
    refine .inr ⟨⟨h0.1, h0.2.1, ha.1 h0.2.2⟩, ?_⟩
    simp only [decResponse, reservedCheck, hz, State.answer_cons, ← hi]
    by_cases h1 : idField r.w = s.cfg.raw.rspId
    · refine .inr ⟨h1, ?_⟩
      rw [bne_eq_false_iff_eq.mpr h1]
      by_cases h2 : byteAt r.p 0 = s.cfg.raw.rspLenOf c
      · refine .inr ⟨h2, ?_⟩
        rw [bne_eq_false_iff_eq.mpr h2]
        by_cases h3 : byteAt r.p 2 = expectedStatus s.cfg.raw c
        · exact .inr ⟨h3, by rw [bne_eq_false_iff_eq.mpr h3]; rfl⟩
        · exact .inl ⟨h3, by rw [bne_iff_ne.mpr h3]; rfl⟩
      · exact .inl ⟨h2, by rw [bne_iff_ne.mpr h2]; rfl⟩
    · exact .inl ⟨h1, by rw [bne_iff_ne.mpr h1]; rfl⟩
  · refine .inl ⟨fun h => h0 ⟨h.1, h.2.1, ha.2 h.2.2⟩, ?_⟩
    have hz : (r.a != 0 || r.b != 0 || aboveId r.w != 0) = true := by
      by_cases h1 : r.a = 0
      · by_cases h2 : r.b = 0
        · have h3 : aboveId r.w ≠ 0 := fun h3 => h0 ⟨h1, h2, h3⟩
          rw [bne_iff_ne.mpr h3, Bool.or_true]
        · rw [bne_iff_ne.mpr h2, Bool.or_true, Bool.true_or]
      · rw [bne_iff_ne.mpr h1, Bool.true_or, Bool.true_or]
    simp only [decResponse, reservedCheck, hz, State.answer_cons]; rfl

/-- The response a failing command check raises is `VALIDATION_FAILED` (R139, R140). -/
theorem RspCheck.checks_status (k : RspCheck) (p : Payload) {e : Response}
    (h : firstFailing (k.checks p) = some e) : e.st = .validationFailed := by
  have hm := firstFailing_mem h
  cases k <;> simp only [RspCheck.checks, List.mem_cons, List.not_mem_nil, or_false, Prod.mk.injEq] at hm
  · rw [hm.2]; rfl
  · rcases hm with hm | hm <;> (rw [hm.2]; rfl)

end Sys2Proof.Machine
end

