-- ==== Sys2Proof/Laws/Crc.lean ====
section
/-! SUPPORT. The CRC byte loops (40_crc.md R101, R107, R114). -/

namespace Sys2Proof.Machine

@[simp] theorem crc16Run_nil (c : BitVec 16) : crc16Run c [] = c := rfl

@[simp] theorem crc16Run_cons (c : BitVec 16) (b : Byte) (bs : List Byte) :
    crc16Run c (b :: bs) = crc16Run (crc16Step c b) bs := rfl

theorem crc16Run_append (c : BitVec 16) (as bs : List Byte) :
    crc16Run c (as ++ bs) = crc16Run (crc16Run c as) bs := List.foldl_append

@[simp] theorem crc32Run_nil (r : BitVec 32) : crc32Run r [] = r := rfl

@[simp] theorem crc32Run_cons (r : BitVec 32) (b : Byte) (bs : List Byte) :
    crc32Run r (b :: bs) = crc32Run (crc32Step r b) bs := rfl

theorem crc32Run_append (r : BitVec 32) (as bs : List Byte) :
    crc32Run r (as ++ bs) = crc32Run (crc32Run r as) bs := List.foldl_append

/-- One turn of the loop is linear over exclusive or. -/
theorem crcShift_xor {n : Nat} (poly a b : BitVec n) :
    crcShift poly (a ^^^ b) = crcShift poly a ^^^ crcShift poly b := by
  unfold crcShift
  rw [BitVec.getLsbD_xor, BitVec.ushiftRight_xor_distrib]
  apply BitVec.eq_of_getLsbD_eq
  intro i _
  cases a.getLsbD 0 <;> cases b.getLsbD 0 <;> simp <;>
    (generalize BitVec.getLsbD a (1 + i) = x; generalize BitVec.getLsbD b (1 + i) = y; generalize BitVec.getLsbD poly i = z) <;>
    cases x <;> cases y <;> cases z <;> rfl

/-- The whole loop is linear over exclusive or. -/
theorem crcShifts_xor {n : Nat} (poly : BitVec n) (k : Nat) (a b : BitVec n) :
    crcShifts poly k (a ^^^ b) = crcShifts poly k a ^^^ crcShifts poly k b := by
  induction k generalizing a b with
  | zero => rfl
  | succ k ih => rw [crcShifts, crcShift_xor, ih]; rfl

/-- While the low `k` bits are 0, `k` turns only shift. -/
theorem crcShifts_of_low_zero {n : Nat} (poly : BitVec n) (k : Nat) (c : BitVec n)
    (h : ∀ i, i < k → c.getLsbD i = false) : crcShifts poly k c = c >>> k := by
  induction k generalizing c with
  | zero => simp [crcShifts]
  | succ k ih =>
    have h0 : c.getLsbD 0 = false := h 0 (by omega)
    have hs : crcShift poly c = c >>> 1 := by simp [crcShift, h0]
    rw [crcShifts, hs, ih (c >>> 1) (by intro i hi; simpa [Nat.add_comm] using h (1 + i) (by omega))]
    apply BitVec.eq_of_getLsbD_eq
    intro i _
    simp only [BitVec.getLsbD_ushiftRight]
    congr 1
    omega

end Sys2Proof.Machine
end

