-- ==== Sys2Proof/Laws/Decode.lean ====
section
/-! SUPPORT. The fields of a decoded instruction are the fields it was decoded from (30_encoding.md R60, R63, R68). -/

namespace Sys2Proof

/-- The selector of the command a selector names is that selector. -/
theorem Cmd.selector_of_ofSelector {k : Byte} {c : Cmd} (h : Cmd.ofSelector k = some c) : c.selector = k := by
  have : c.selector.toNat = k.toNat := by
    unfold Cmd.ofSelector at h
    generalize k.toNat = n at h
    have hl : n < 17 := (List.getElem?_eq_some_iff.mp h).1
    interval_cases n <;> cases h <;> rfl
  exact BitVec.eq_of_toNat_eq this

/-- The fields of an `ENC` row. -/
theorem encRow_fields {c : Cmd} {r : Operands} {i : Instr} (h : encRow c r = .ok i) :
    i.op = 0x0A ∧ i.k = c.selector ∧ i.operands = r := by
  cases c <;> cases h <;> exact ⟨rfl, rfl, rfl⟩

/-- The fields of a `DEC` row. -/
theorem decRow_fields {c : Cmd} {r : Operands} {i : Instr} (h : decRow c r = .ok i) :
    i.op = 0x0B ∧ i.k = c.selector ∧ i.operands = r := by
  cases c <;> cases h <;> exact ⟨rfl, rfl, rfl⟩

/-- The fields of any decoded instruction. -/
theorem decodeFields_fields {op k : Byte} {r : Operands} {i : Instr} (h : decodeFields op k r = .ok i) :
    i.op = op ∧ i.k = k ∧ i.operands = r := by
  unfold decodeFields at h
  iterate 9 (split at h; (rename_i h1; subst h1; cases h; exact ⟨rfl, rfl, rfl⟩))
  split at h
  · rename_i h1
    subst h1
    split at h
    · rename_i hk
      rw [← Cmd.selector_of_ofSelector hk]
      exact encRow_fields h
    · cases h
  · split at h
    · rename_i h1
      subst h1
      split at h
      · rename_i hk
        rw [← Cmd.selector_of_ofSelector hk]
        exact decRow_fields h
      · cases h
    · cases h

/-- Only 16 bytes decode to an instruction (R43, R60). -/
theorem decode_length {bs : List Byte} {i : Instr} (h : decode bs = .ok i) : bs.length = 16 := by
  unfold decode at h
  split at h
  · rfl
  · cases h

end Sys2Proof
end

