-- ==== Sys2Proof/Laws/PerInstr.lean ====
section
/-! SUPPORT. Families of statements about the instruction as syntax, one lemma per constructor of Instr.

RoundTrip: the fields of an instruction's request word select that instruction's own row and carry its own operands
(30_encoding.md R60, R61, R63, R68), so no bit of an encoding is dropped between the encoder and the decoder. -/

namespace Sys2Proof.Laws

/-- Decoding the fields an instruction encodes to gives the instruction. -/
def RoundTrip.Statement (i : Instr) : Prop := decodeFields i.op i.k i.operands = .ok i

theorem RoundTrip.nop (k : Byte) (r : Operands) : Statement (.nop k r) := rfl
theorem RoundTrip.crc16Init (k : Byte) (r : Operands) : Statement (.crc16Init k r) := rfl
theorem RoundTrip.crc16Feed (k : Byte) (r : Operands) : Statement (.crc16Feed k r) := rfl
theorem RoundTrip.crc16Read (k : Byte) (r : Operands) : Statement (.crc16Read k r) := rfl
theorem RoundTrip.crc32Init (k : Byte) (r : Operands) : Statement (.crc32Init k r) := rfl
theorem RoundTrip.crc32Feed (k : Byte) (r : Operands) : Statement (.crc32Feed k r) := rfl
theorem RoundTrip.crc32Read (k : Byte) (r : Operands) : Statement (.crc32Read k r) := rfl
theorem RoundTrip.frameCmd (k : Byte) (r : Operands) : Statement (.frameCmd k r) := rfl
theorem RoundTrip.frameData (k : Byte) (r : Operands) : Statement (.frameData k r) := rfl
theorem RoundTrip.encGetDevInfo (r : Operands) : Statement (.encGetDevInfo r) := rfl
theorem RoundTrip.encPrepare (r : Operands) : Statement (.encPrepare r) := rfl
theorem RoundTrip.encGetBlVer (r : Operands) : Statement (.encGetBlVer r) := rfl
theorem RoundTrip.encGetAppVer (r : Operands) : Statement (.encGetAppVer r) := rfl
theorem RoundTrip.encGetHwType (r : Operands) : Statement (.encGetHwType r) := rfl
theorem RoundTrip.encGetBatSn (r : Operands) : Statement (.encGetBatSn r) := rfl
theorem RoundTrip.encGetPktLen (r : Operands) : Statement (.encGetPktLen r) := rfl
theorem RoundTrip.encSetPktLen (r : Operands) : Statement (.encSetPktLen r) := rfl
theorem RoundTrip.encSetAppLen (r : Operands) : Statement (.encSetAppLen r) := rfl
theorem RoundTrip.encSetPktSeq (r : Operands) : Statement (.encSetPktSeq r) := rfl
theorem RoundTrip.encSetPktAddr (r : Operands) : Statement (.encSetPktAddr r) := rfl
theorem RoundTrip.encVerifyPkt (r : Operands) : Statement (.encVerifyPkt r) := rfl
theorem RoundTrip.encVerifyAll (r : Operands) : Statement (.encVerifyAll r) := rfl
theorem RoundTrip.encUpdateCur (r : Operands) : Statement (.encUpdateCur r) := rfl
theorem RoundTrip.encUpdateAll (r : Operands) : Statement (.encUpdateAll r) := rfl
theorem RoundTrip.encGetUpdStatus (r : Operands) : Statement (.encGetUpdStatus r) := rfl
theorem RoundTrip.decGetDevInfo (r : Operands) : Statement (.decGetDevInfo r) := rfl
theorem RoundTrip.decPrepare (r : Operands) : Statement (.decPrepare r) := rfl
theorem RoundTrip.decGetBlVer (r : Operands) : Statement (.decGetBlVer r) := rfl
theorem RoundTrip.decGetAppVer (r : Operands) : Statement (.decGetAppVer r) := rfl
theorem RoundTrip.decGetHwType (r : Operands) : Statement (.decGetHwType r) := rfl
theorem RoundTrip.decGetBatSn (r : Operands) : Statement (.decGetBatSn r) := rfl
theorem RoundTrip.decGetPktLen (r : Operands) : Statement (.decGetPktLen r) := rfl
theorem RoundTrip.decSetPktLen (r : Operands) : Statement (.decSetPktLen r) := rfl
theorem RoundTrip.decSetAppLen (r : Operands) : Statement (.decSetAppLen r) := rfl
theorem RoundTrip.decSetPktSeq (r : Operands) : Statement (.decSetPktSeq r) := rfl
theorem RoundTrip.decSetPktAddr (r : Operands) : Statement (.decSetPktAddr r) := rfl
theorem RoundTrip.decSendPkt (r : Operands) : Statement (.decSendPkt r) := rfl
theorem RoundTrip.decVerifyPkt (r : Operands) : Statement (.decVerifyPkt r) := rfl
theorem RoundTrip.decVerifyAll (r : Operands) : Statement (.decVerifyAll r) := rfl
theorem RoundTrip.decGetUpdStatus (r : Operands) : Statement (.decGetUpdStatus r) := rfl

end Sys2Proof.Laws
end

