-- ==== Sys2Proof/Laws/Responses.lean ====
section
/-! SUPPORT. The responses of Machine/Flags.lean have the form their status fixes (60_exceptions.md R200 to R206). -/

namespace Sys2Proof.Machine

theorem okResponse_wellShaped (v : Word32) (f : Payload) : (okResponse v f).wellShaped := ⟨rfl, rfl, rfl⟩

theorem idMismatchResponse_wellShaped : idMismatchResponse.wellShaped := ⟨rfl, rfl, rfl, rfl, rfl⟩

theorem validationFailed_wellShaped {fld : Field} {exp act : Byte}
    (hf : fld = .length ∨ fld = .status ∨ fld = .ack ∨ fld = .magic) (h : exp ≠ act) :
    (validationFailed fld exp act).wellShaped := ⟨hf, h, rfl, rfl⟩

theorem unsupportedParameter_wellShaped {fld : Field} (v : Word32) (hf : fld = .packetLen ∨ fld = .crcType) :
    (unsupportedParameter fld v).wellShaped := ⟨hf, rfl, rfl, rfl⟩

theorem illegalRequest_wellShaped {fld : Field} (hf : fld = .op ∨ fld = .k ∨ fld = .reserved ∨ fld = .range) :
    (illegalRequest fld).wellShaped := ⟨hf, rfl, rfl, rfl, rfl⟩

theorem notInitialised_wellShaped {fld : Field} (hf : fld = .crc16 ∨ fld = .crc32) :
    (notInitialised fld).wellShaped := ⟨hf, rfl, rfl, rfl, rfl⟩

end Sys2Proof.Machine
end

