-- ==== Sys2Proof/Tests/Slice0.lean ====
section
/-! SUPPORT. The model's own tests. Expected words are those of spec/95_test_vectors.md, or are written out from the field
tables of 30_encoding.md R61, R62 and R68; the configuration is the vectors' E1. -/

namespace Sys2Proof.Tests

open Sys2Proof Sys2Proof.Machine

/-! ### Helpers -/

/-- Configuration E1 of 95_test_vectors.md. -/
def e1 : LegalCfg where
  raw :=
    { cmdId := 0x100
      datId := 0x101
      rspId := 0x102
      opc := ⟨0x01, 0x02, 0x03, 0x04, 0x05, 0x06, 0x07, 0x08, 0x09, 0x0A, 0x0B, 0x0C, 0x0D, 0x0E, 0x0F, 0x10, 0x11⟩
      rspLen := ⟨7, 5, 7, 7, 7, 7, 4, 3, 6, 5, 7, 3, 3, 3, 3⟩ }
  legal := by decide

/-- The block built with E1. -/
def block : State := State.powerUp e1

/-- The block with these accumulators, both initialised. -/
def crcBlock (c : BitVec 16) (r : BitVec 32) : State := { block with acc16 := c, v16 := true, acc32 := r, v32 := true }

/-- One step that takes the given request word. -/
def take (s : State) (w : Nat) : Option State :=
  match step (s.withFetchWord 128 w) with
  | .next t => some t
  | .fault _ => none
  | .refused _ => none

/-- The response word of one step. -/
def answer (s : State) (w : Nat) : Option Word128 :=
  match take s w with
  | some t => t.rsp.map Response.word
  | none => none

/-- The block state after one step: `v16, acc16, v32, acc32`. -/
def blockAfter (s : State) (w : Nat) : Option (Bool × BitVec 16 × Bool × BitVec 32) :=
  (take s w).map fun t => (t.v16, t.acc16, t.v32, t.acc32)

/-- Fields all 0. -/
def zeros : Operands := ⟨0, 0, 0, 0⟩

/-! ### Decoding: one word for every constructor -/

theorem test_decode_nop : decodeTableWord 128 0x00000000000000000000000000000000 = some (.nop 0 ⟨0, 0, 0, 0⟩) := by decide
theorem test_decode_crc16Init : decodeTableWord 128 0x00000000000000000000FFFF00000001 = some (.crc16Init 0 ⟨0, 0, 0xFFFF, 0⟩) := by decide
theorem test_decode_crc16Feed : decodeTableWord 128 0x38373635343332310000000008000002 = some (.crc16Feed 0 ⟨0, 8, 0, 0x3837363534333231⟩) := by decide
theorem test_decode_crc16Read : decodeTableWord 128 0x00000000000000000000000000000003 = some (.crc16Read 0 ⟨0, 0, 0, 0⟩) := by decide
theorem test_decode_crc32Init : decodeTableWord 128 0x00000000000000001234567800000004 = some (.crc32Init 0 ⟨0, 0, 0x12345678, 0⟩) := by decide
theorem test_decode_crc32Feed : decodeTableWord 128 0x00000000000000390000000001000005 = some (.crc32Feed 0 ⟨0, 1, 0, 0x39⟩) := by decide
theorem test_decode_crc32Read : decodeTableWord 128 0x00000000000000000000000000000006 = some (.crc32Read 0 ⟨0, 0, 0, 0⟩) := by decide
theorem test_decode_frameCmd : decodeTableWord 128 0x00000000001100020000000003030008 = some (.frameCmd 0 ⟨0x03, 0x03, 0x0, 0x110002⟩) := by decide
theorem test_decode_frameData : decodeTableWord 128 0x07060504030201000000000000000009 = some (.frameData 0 ⟨0x00, 0x00, 0x0, 0x706050403020100⟩) := by decide
theorem test_decode_encGetDevInfo : decodeTableWord 128 0x0000000000000000000000000003000A = some (.encGetDevInfo ⟨0x03, 0x00, 0x0, 0x0⟩) := by decide
theorem test_decode_encPrepare : decodeTableWord 128 0x0000000000000000000000000003010A = some (.encPrepare ⟨0x03, 0x00, 0x0, 0x0⟩) := by decide
theorem test_decode_encGetBlVer : decodeTableWord 128 0x0000000000000000000000000003020A = some (.encGetBlVer ⟨0x03, 0x00, 0x0, 0x0⟩) := by decide
theorem test_decode_encGetAppVer : decodeTableWord 128 0x0000000000000000000000000003030A = some (.encGetAppVer ⟨0x03, 0x00, 0x0, 0x0⟩) := by decide
theorem test_decode_encGetHwType : decodeTableWord 128 0x0000000000000000000000000003040A = some (.encGetHwType ⟨0x03, 0x00, 0x0, 0x0⟩) := by decide
theorem test_decode_encGetBatSn : decodeTableWord 128 0x0000000000000000000000000003050A = some (.encGetBatSn ⟨0x03, 0x00, 0x0, 0x0⟩) := by decide
theorem test_decode_encGetPktLen : decodeTableWord 128 0x0000000000000000000000000003060A = some (.encGetPktLen ⟨0x03, 0x00, 0x0, 0x0⟩) := by decide
theorem test_decode_encSetPktLen : decodeTableWord 128 0x0000000000000000000000400003070A = some (.encSetPktLen ⟨0x03, 0x00, 0x40, 0x0⟩) := by decide
theorem test_decode_encSetAppLen : decodeTableWord 128 0x0000000000000000000001000003080A = some (.encSetAppLen ⟨0x03, 0x00, 0x100, 0x0⟩) := by decide
theorem test_decode_encSetPktSeq : decodeTableWord 128 0x0000000000000000000000010003090A = some (.encSetPktSeq ⟨0x03, 0x00, 0x1, 0x0⟩) := by decide
theorem test_decode_encSetPktAddr : decodeTableWord 128 0x00000000000000000800400000030A0A = some (.encSetPktAddr ⟨0x03, 0x00, 0x8004000, 0x0⟩) := by decide
theorem test_decode_encVerifyPkt : decodeTableWord 128 0x0000000000000000000008D900030C0A = some (.encVerifyPkt ⟨0x03, 0x00, 0x8D9, 0x0⟩) := by decide
theorem test_decode_encVerifyAll : decodeTableWord 128 0x000000000000000029058C7301030D0A = some (.encVerifyAll ⟨0x03, 0x01, 0x29058C73, 0x0⟩) := by decide
theorem test_decode_encUpdateCur : decodeTableWord 128 0x00000000000000000000000000030E0A = some (.encUpdateCur ⟨0x03, 0x00, 0x0, 0x0⟩) := by decide
theorem test_decode_encUpdateAll : decodeTableWord 128 0x00000000000000000000000000000F0A = some (.encUpdateAll ⟨0x00, 0x00, 0x0, 0x0⟩) := by decide
theorem test_decode_encGetUpdStatus : decodeTableWord 128 0x0000000000000000000000000003100A = some (.encGetUpdStatus ⟨0x03, 0x00, 0x0, 0x0⟩) := by decide
theorem test_decode_decGetDevInfo : decodeTableWord 128 0x5544332211410307000001020000000B = some (.decGetDevInfo ⟨0x00, 0x00, 0x102, 0x5544332211410307⟩) := by decide
theorem test_decode_decPrepare : decodeTableWord 128 0x000004FECC420305000001020000010B = some (.decPrepare ⟨0x00, 0x00, 0x102, 0x4FECC420305⟩) := by decide
theorem test_decode_decGetBlVer : decodeTableWord 128 0x0504030201430307000001020000020B = some (.decGetBlVer ⟨0x00, 0x00, 0x102, 0x504030201430307⟩) := by decide
theorem test_decode_decGetAppVer : decodeTableWord 128 0x0000000001440307000001020000030B = some (.decGetAppVer ⟨0x00, 0x00, 0x102, 0x1440307⟩) := by decide
theorem test_decode_decGetHwType : decodeTableWord 128 0x000000002A450307000001020000040B = some (.decGetHwType ⟨0x00, 0x00, 0x102, 0x2A450307⟩) := by decide
theorem test_decode_decGetBatSn : decodeTableWord 128 0x4443424101460307000001020000050B = some (.decGetBatSn ⟨0x00, 0x00, 0x102, 0x4443424101460307⟩) := by decide
theorem test_decode_decGetPktLen : decodeTableWord 128 0x0000000008470304000001020000060B = some (.decGetPktLen ⟨0x00, 0x00, 0x102, 0x8470304⟩) := by decide
theorem test_decode_decSetPktLen : decodeTableWord 128 0x00000000A1480303000001020000070B = some (.decSetPktLen ⟨0x00, 0x00, 0x102, 0xA1480303⟩) := by decide
theorem test_decode_decSetAppLen : decodeTableWord 128 0xFFFFFFFFFF490306000001020000080B = some (.decSetAppLen ⟨0x00, 0x00, 0x102, 0xFFFFFFFFFF490306⟩) := by decide
theorem test_decode_decSetPktSeq : decodeTableWord 128 0x00000001A24A0305000001020000090B = some (.decSetPktSeq ⟨0x00, 0x00, 0x102, 0x1A24A0305⟩) := by decide
theorem test_decode_decSetPktAddr : decodeTableWord 128 0x00000000004B03070000010200000A0B = some (.decSetPktAddr ⟨0x00, 0x00, 0x102, 0x4B0307⟩) := by decide
theorem test_decode_decSendPkt : decodeTableWord 128 0x00000000A24C03030000010200000B0B = some (.decSendPkt ⟨0x00, 0x00, 0x102, 0xA24C0303⟩) := by decide
theorem test_decode_decVerifyPkt : decodeTableWord 128 0x00000000A34D03030000010200000C0B = some (.decVerifyPkt ⟨0x00, 0x00, 0x102, 0xA34D0303⟩) := by decide
theorem test_decode_decVerifyAll : decodeTableWord 128 0x00000000A44E03030000010200000D0B = some (.decVerifyAll ⟨0x00, 0x00, 0x102, 0xA44E0303⟩) := by decide
theorem test_decode_decGetUpdStatus : decodeTableWord 128 0x000000000C510303000001020000100B = some (.decGetUpdStatus ⟨0x00, 0x00, 0x102, 0xC510303⟩) := by decide

/-- The opcode table gives a row 16 bits; the operands above them are then zeros. -/
theorem test_decode_shortRows :
    decodeTableWord 16 0x0000 = some (.nop 0 zeros) ∧ decodeTableWord 16 0x100B = some (.decGetUpdStatus zeros) := by decide

/-- A plain operation keeps its `K`: the block answers it, the decoder does not refuse it (R66). -/
theorem test_decode_plainKeepsK : decodeTableWord 16 0x5A03 = some (.crc16Read 0x5A zeros) := by decide

theorem test_decode_refusesOp07 : decodeWord 0x07 = .error .illegalOp := by decide
theorem test_decode_refusesOp0C : decodeWord 0x0C = .error .illegalOp := by decide
theorem test_decode_refusesEncSendPkt : decodeWord 0x0B0A = .error .illegalK := by decide
theorem test_decode_refusesDecUpdateCur : decodeWord 0x0E0B = .error .illegalK := by decide
theorem test_decode_refusesDecUpdateAll : decodeWord 0x0F0B = .error .illegalK := by decide
theorem test_decode_refusesSelector11 : decodeWord 0x110A = .error .illegalK := by decide
theorem test_decode_refusesShort : decode [0x00, 0x00, 0x00] = .error .notOneWord := by decide

/-- Byte order of R43 and R61: `OP` first, then `K`, `A`, `B`, `W` and `P`, each least significant byte first. -/
theorem test_encode_byteOrder :
    encodeBytes (.encVerifyAll ⟨0x03, 0x01, 0x29058C73, 0x8877665544332211⟩) =
      [0x0A, 0x0D, 0x03, 0x01, 0x73, 0x8C, 0x05, 0x29, 0x11, 0x22, 0x33, 0x44, 0x55, 0x66, 0x77, 0x88] := by decide

/-! ### Well-formedness: each check refuses an ill-formed term and passes its neighbour -/

theorem test_wf_reservedK : Instr.wellFormed (.nop 1 zeros) = false ∧ Instr.wellFormed (.nop 0 zeros) = true := by decide
theorem test_wf_reservedA : Instr.wellFormed (.frameData 0 ⟨1, 0, 0, 5⟩) = false ∧
    Instr.wellFormed (.frameData 0 ⟨0, 0, 0, 5⟩) = true := by decide
theorem test_wf_reservedB : Instr.wellFormed (.encPrepare ⟨3, 1, 0, 0⟩) = false ∧
    Instr.wellFormed (.encPrepare ⟨3, 0, 0, 0⟩) = true := by decide
theorem test_wf_reservedW : Instr.wellFormed (.frameCmd 0 ⟨3, 2, 1, 0⟩) = false ∧
    Instr.wellFormed (.frameCmd 0 ⟨3, 2, 0, 0⟩) = true := by decide
theorem test_wf_reservedP : Instr.wellFormed (.crc32Init 0 ⟨0, 0, 9, 1⟩) = false ∧
    Instr.wellFormed (.crc32Init 0 ⟨0, 0, 9, 0⟩) = true := by decide
theorem test_wf_count : Instr.wellFormed (.crc16Feed 0 ⟨0, 9, 0, 0⟩) = false ∧
    Instr.wellFormed (.crc16Feed 0 ⟨0, 8, 0, 0⟩) = true := by decide
theorem test_wf_highHalf : Instr.wellFormed (.crc16Init 0 ⟨0, 0, 0x10000, 0⟩) = false ∧
    Instr.wellFormed (.crc16Init 0 ⟨0, 0, 0xFFFF, 0⟩) = true := by decide
theorem test_wf_identifier : Instr.wellFormed (.decPrepare ⟨0, 0, 0x800, 0⟩) = false ∧
    Instr.wellFormed (.decPrepare ⟨0, 0, 0x7FF, 0⟩) = true := by decide
theorem test_wf_wideArgument : Instr.wellFormed (.encSetAppLen ⟨3, 1, 0, 0⟩) = false ∧
    Instr.wellFormed (.encSetAppLen ⟨3, 0, 0xFFFFFFFF, 0⟩) = true := by decide
theorem test_wf_verifyAll : Instr.wellFormed (.encVerifyAll ⟨3, 0, 0x10000, 0⟩) = false ∧
    Instr.wellFormed (.encVerifyAll ⟨3, 1, 0x10000, 0⟩) = true := by decide

/-! ### Meanings: one step, words of 95_test_vectors.md -/

theorem test_nop : answer block 0x00000000000000000000000000000000 = some 0x00000000000000000000000000000000 := by decide
theorem test_nop_reserved : answer block 0x00000000000000000000000000000100 = some 0x00000000000000000000000000002204 := by decide
theorem test_crc16Init : blockAfter block 0x00000000000000000000FFFF00000001 = some (true, 0xFFFF, false, 0) := by decide
set_option maxRecDepth 16384 in
theorem test_crc16Feed : blockAfter (crcBlock 0xFFFF 0) 0x07060504030201000000000008000002 =
    some (true, 0x7A46, true, 0) := by decide
theorem test_crc16Feed_range : answer block 0x00000000000000000000000009000002 =
    some 0x00000000000000000000000000002304 := by decide
theorem test_crc16Read : answer (crcBlock 0xDE6C 0) 0x00000000000000000000000000000003 =
    some 0x00000000000000000000DE6C00000000 := by decide
theorem test_crc16Read_before_init : answer block 0x00000000000000000000000000000003 =
    some 0x00000000000000000000000000003005 := by decide
theorem test_crc32Init : blockAfter block 0x00000000000000001234567800000004 = some (false, 0, true, 0xEDCBA987) := by decide
theorem test_crc32Feed : blockAfter (crcBlock 0 0x651F2550) 0x00000000000000390000000001000005 =
    some (true, 0, true, 0x340BC6D9) := by decide
set_option maxRecDepth 16384 in
theorem test_crc32Feed_eight : blockAfter (crcBlock 0 0xFFFFFFFF) 0x38373635343332310000000008000005 =
    some (true, 0, true, 0x651F2550) := by decide
theorem test_crc32Read : answer (crcBlock 0 0x340BC6D9) 0x00000000000000000000000000000006 =
    some 0x0000000000000000CBF4392600000000 := by decide
theorem test_crc32Read_before_init : answer block 0x00000000000000000000000000000006 =
    some 0x00000000000000000000000000003105 := by decide
theorem test_frameCmd : answer block 0x00000000001100020000000003030008 = some 0x00000000001103020000010000000000 := by decide
theorem test_frameCmd_pastTheCount : answer block 0xAAAAAAAAAA1100020000000003030008 = some 0x00000000001103020000010000000000 := by decide
theorem test_frameData : answer block 0x07060504030201000000000000000009 = some 0x07060504030201000000010100000000 := by decide
theorem test_encGetDevInfo : answer block 0x0000000000000000000000000003000A = some 0x00000000000103020000010000000000 := by decide
theorem test_encPrepare : answer block 0x0000000000000000000000000003010A = some 0x00000000000203020000010000000000 := by decide
theorem test_encGetBlVer : answer block 0x0000000000000000000000000003020A = some 0x00000000000303020000010000000000 := by decide
theorem test_encGetAppVer : answer block 0x0000000000000000000000000003030A = some 0x00000000000403020000010000000000 := by decide
theorem test_encGetHwType : answer block 0x0000000000000000000000000003040A = some 0x00000000000503020000010000000000 := by decide
theorem test_encGetBatSn : answer block 0x0000000000000000000000000003050A = some 0x00000000000603020000010000000000 := by decide
theorem test_encGetPktLen : answer block 0x0000000000000000000000000003060A = some 0x00000000000703020000010000000000 := by decide
theorem test_encSetPktLen : answer block 0x0000000000000000000000400003070A = some 0x00000000400803040000010000000000 := by decide
theorem test_encSetAppLen : answer block 0x0000000000000000000001000003080A = some 0x00000001000903060000010000000000 := by decide
theorem test_encSetPktSeq : answer block 0x0000000000000000000000010003090A = some 0x00000000010A03040000010000000000 := by decide
theorem test_encSetPktAddr : answer block 0x00000000000000000800400000030A0A = some 0x00080040000B03060000010000000000 := by decide
theorem test_encVerifyPkt : answer block 0x0000000000000000000008D900030C0A = some 0x00000008D90D03040000010000000000 := by decide
theorem test_encVerifyAll : answer block 0x000000000000000029058C7301030D0A = some 0x29058C73010E03070000010000000000 := by decide
theorem test_encUpdateCur : answer block 0x00000000000000000000000000030E0A = some 0x00000000000F03020000010000000000 := by decide
theorem test_encUpdateAll : answer block 0x00000000000000000000000000000F0A = some 0x00000000001000020000010000000000 := by decide
theorem test_encGetUpdStatus : answer block 0x0000000000000000000000000003100A = some 0x00000000001103020000010000000000 := by decide
theorem test_decGetDevInfo : answer block 0x5544332211410307000001020000000B = some 0x00000055443322110000000000000000 := by decide
theorem test_decPrepare : answer block 0x000004FECC420305000001020000010B = some 0x000000000004FECC0000000400000000 := by decide
theorem test_decGetBlVer : answer block 0x0504030201430307000001020000020B = some 0x00000005040302010000000000000000 := by decide
theorem test_decGetAppVer : answer block 0x0000000001440307000001020000030B = some 0x00000000000000010000000000000000 := by decide
theorem test_decGetHwType : answer block 0x000000002A450307000001020000040B = some 0x000000000000002A0000000000000000 := by decide
theorem test_decGetBatSn : answer block 0x4443424101460307000001020000050B = some 0x00000044434241010000000100000000 := by decide
theorem test_decGetPktLen : answer block 0x0000000008470304000001020000060B = some 0x00000000000000080000000800000000 := by decide
theorem test_decSetPktLen : answer block 0x00000000A1480303000001020000070B = some 0x00000000000000A10000000000000000 := by decide
theorem test_decSetAppLen : answer block 0xFFFFFFFFFF490306000001020000080B = some 0x00000000FFFFFFFFFFFFFFFF00000000 := by decide
theorem test_decSetPktSeq : answer block 0x00000001A24A0305000001020000090B = some 0x00000000000001A20000000100000000 := by decide
theorem test_decSetPktAddr : answer block 0x00000000004B03070000010200000A0B = some 0x00000000000000000000000000000000 := by decide
theorem test_decSendPkt : answer block 0x00000000A24C03030000010200000B0B = some 0x00000000000000A20000000000000000 := by decide
theorem test_decVerifyPkt : answer block 0x00000000A34D03030000010200000C0B = some 0x00000000000000A30000000000000000 := by decide
theorem test_decVerifyAll : answer block 0x00000000A44E03030000010200000D0B = some 0x00000000000000A40000000000000000 := by decide
theorem test_decGetUpdStatus : answer block 0x000000000C510303000001020000100B = some 0x000000000000000C0000000C00000000 := by decide
theorem test_error_validationFailed_04 : answer block 0x0000040000420305000001020000010B = some 0x00000000000000000000000000CC0402 := by decide
theorem test_error_unsupported_10 : answer block 0x00000000000000000000012C0003070A = some 0x00000000000000000000012C00001003 := by decide
theorem test_error_identifier : answer block 0x000004FECC420305000001000000010B = some 0x00000000000000000000000000000001 := by decide
theorem test_error_unsupported_11 : answer block 0x00000000000000000000000002030D0A = some 0x00000000000000000000000200001103 := by decide
theorem test_error_validationFailed_01 : answer block 0x000004FECC420306000001020000010B = some 0x00000000000000000000000006050102 := by decide
theorem test_error_validationFailed_02 : answer block 0x000004FECC020305000001020000010B = some 0x00000000000000000000000002420202 := by decide
theorem test_error_validationFailed_03 : answer block 0x00000000A2480303000001020000070B = some 0x000000000000000000000000A2A10302 := by decide
theorem test_error_magicSecondByte : answer block 0x00000400CC420305000001020000010B = some 0x00000000000000000000000000FE0402 := by decide
theorem test_error_op : answer block 0x00000000000000000000000000000007 = some 0x00000000000000000000000000002004 := by decide
theorem test_error_k : answer block 0x00000000000000000000000000030B0A = some 0x00000000000000000000000000002104 := by decide
/-! ### From reset -/

/-- The first request offered after reset is the first instruction performed. -/
theorem test_reset_runs_first_request :
    step (State.reset.withFetchWord 128 0x00000000000000000000FFFF00000001) =
      .next { State.reset with acc16 := 0xFFFF, v16 := true, rsp := some ⟨.ok, .none, 0, 0, 0, 0⟩ } := rfl

/-- A reset inside a request discards it, and the request after the reset is the next one (R230, I25). -/
theorem test_reset_discards_partial_request :
    ∃ t, step { crcBlock 5 6 with port := byteEvents [0x03, 0, 0] ++ .reset :: byteEvents [0x08] } = .next t ∧
      t.v16 = false ∧ t.v32 = false ∧ t.cfg = e1 ∧ t.port = byteEvents [0x08] ∧ t.rsp = none := ⟨_, rfl, rfl, rfl, rfl, rfl, rfl⟩

/-- An illegal configuration builds no block (R27): two equal identifiers. -/
theorem test_build_illegal : State.build { e1.raw with datId := 0x100 } = .refused .illegalCfg := rfl

/-- The OPEN parameters of E1. -/
def e1Open : OpenParams where
  cmdId := 0x100
  datId := 0x101
  rspId := 0x102
  opc := ⟨0x01, 0x02, 0x03, 0x04, 0x05, 0x06, 0x07, 0x08, 0x09, 0x0A, 0x0B, 0x0C, 0x0D, 0x0E, 0x0F, 0x10, 0x11⟩
  lens := ⟨7, 7, 7, 7, 7⟩

/-- E1 is its OPEN parameters with the source's values and the spec's defaults (R151). -/
theorem test_e1_keeps_the_defaults : Cfg.ofBuilder e1Open {} = e1.raw ∧ State.buildFrom e1Open {} = .next block :=
  ⟨rfl, rfl⟩

/-- DEC SEND_PKT of a length-3 response in the block of State.reset is not rejected for its length (R176, default 3). -/
theorem test_reset_sendPkt_length : State.reset.cfg.raw.rspLenOf .sendPkt = 3 := rfl

/-! ### CRC values of 40_crc.md R101, R114 and 93_implementation_defined.md G3 -/

theorem test_crc16Step : crc16Step 0xFFFF 0x00 = 0x40BF := by decide
theorem test_crc32Step : crc32Step 0xFFFFFFFF 0x00 = 0x2DFD1072 := by decide
set_option maxRecDepth 16384 in
theorem test_crc16_check : crc16 [0x31, 0x32, 0x33, 0x34, 0x35, 0x36, 0x37, 0x38, 0x39] 0xFFFF = 0x4B37 := by decide
set_option maxRecDepth 16384 in
theorem test_crc32_check : crc32 [0x31, 0x32, 0x33, 0x34, 0x35, 0x36, 0x37, 0x38, 0x39] 0 = 0xCBF43926 := by decide

/-! ### Witnesses: for each statement with hypotheses, values that meet them, one group for each clause, at the boundaries
where clauses meet -/

theorem test_witness_NopDoesNothing :
    ((0 : Byte) = 0 ∧ zeros.a = 0 ∧ zeros.b = 0 ∧ zeros.w = 0 ∧ zeros.p = 0) ∧
    ¬ ((0 : Byte) = 0 ∧ (⟨0, 0, 0, 1⟩ : Operands).a = 0 ∧ (⟨0, 0, 0, 1⟩ : Operands).b = 0 ∧
      (⟨0, 0, 0, 1⟩ : Operands).w = 0 ∧ (⟨0, 0, 0, 1⟩ : Operands).p = 0) := by decide

theorem test_witness_Crc16InitLoadsTheSeed :
    let good : Operands := ⟨0, 0, 0xFFFF, 0⟩
    let bad : Operands := ⟨0, 0, 0x10000, 0⟩
    ((0 : Byte) = 0 ∧ good.a = 0 ∧ good.b = 0 ∧ good.w.toNat < 0x10000 ∧ good.p = 0) ∧
    ¬ ((0 : Byte) = 0 ∧ bad.a = 0 ∧ bad.b = 0 ∧ bad.w.toNat < 0x10000 ∧ bad.p = 0) := by decide

theorem test_witness_Crc16FeedRunsTheCountedBytes :
    let eight : Operands := ⟨0, 8, 0, 0x0807060504030201⟩
    let nine : Operands := ⟨0, 9, 0, 0⟩
    let bad : Operands := ⟨1, 9, 0, 0⟩
    ((0 : Byte) = 0 ∧ eight.a = 0 ∧ eight.w = 0 ∧ eight.b.toNat ≤ 8 ∧ (crcBlock 1 2).v16 = true) ∧
    ¬ ((0 : Byte) = 0 ∧ bad.a = 0 ∧ bad.w = 0) ∧
    ((0 : Byte) = 0 ∧ nine.a = 0 ∧ nine.w = 0 ∧ 8 < nine.b.toNat) ∧
    ((0 : Byte) = 0 ∧ eight.a = 0 ∧ eight.w = 0 ∧ eight.b.toNat ≤ 8 ∧ block.v16 = false) := by decide

theorem test_witness_Crc16ReadReturnsTheAccumulator :
    let bad : Operands := ⟨0, 1, 0, 0⟩
    ((0 : Byte) = 0 ∧ zeros.a = 0 ∧ zeros.b = 0 ∧ zeros.w = 0 ∧ zeros.p = 0 ∧ (crcBlock 1 2).v16 = true) ∧
    ¬ ((0 : Byte) = 0 ∧ bad.a = 0 ∧ bad.b = 0 ∧ bad.w = 0 ∧ bad.p = 0) ∧
    ((0 : Byte) = 0 ∧ zeros.a = 0 ∧ zeros.b = 0 ∧ zeros.w = 0 ∧ zeros.p = 0 ∧ block.v16 = false) := by decide

theorem test_witness_Crc32InitStoresTheComplementedSeed :
    let good : Operands := ⟨0, 0, 0xFFFFFFFF, 0⟩
    let bad : Operands := ⟨0, 0, 0xFFFFFFFF, 1⟩
    ((0 : Byte) = 0 ∧ good.a = 0 ∧ good.b = 0 ∧ good.p = 0) ∧
    ¬ ((0 : Byte) = 0 ∧ bad.a = 0 ∧ bad.b = 0 ∧ bad.p = 0) := by decide

theorem test_witness_Crc32FeedRunsTheCountedBytes :
    let none : Operands := ⟨0, 0, 0, 0x0807060504030201⟩
    let nine : Operands := ⟨0, 9, 0, 0⟩
    let bad : Operands := ⟨0, 9, 1, 0⟩
    ((0 : Byte) = 0 ∧ none.a = 0 ∧ none.w = 0 ∧ none.b.toNat ≤ 8 ∧ (crcBlock 1 2).v32 = true) ∧
    ¬ ((0 : Byte) = 0 ∧ bad.a = 0 ∧ bad.w = 0) ∧
    ((0 : Byte) = 0 ∧ nine.a = 0 ∧ nine.w = 0 ∧ 8 < nine.b.toNat) ∧
    ((0 : Byte) = 0 ∧ none.a = 0 ∧ none.w = 0 ∧ none.b.toNat ≤ 8 ∧ block.v32 = false) := by decide

theorem test_witness_Crc32ReadReturnsTheComplement :
    let bad : Operands := ⟨1, 0, 0, 0⟩
    ((0 : Byte) = 0 ∧ zeros.a = 0 ∧ zeros.b = 0 ∧ zeros.w = 0 ∧ zeros.p = 0 ∧ (crcBlock 1 2).v32 = true) ∧
    ¬ ((0 : Byte) = 0 ∧ bad.a = 0 ∧ bad.b = 0 ∧ bad.w = 0 ∧ bad.p = 0) ∧
    ((0 : Byte) = 0 ∧ zeros.a = 0 ∧ zeros.b = 0 ∧ zeros.w = 0 ∧ zeros.p = 0 ∧ block.v32 = false) := by decide

theorem test_witness_FrameCmdPadsTheTemplate :
    let eight : Operands := ⟨3, 8, 0, 0x0807060504030201⟩
    let nine : Operands := ⟨3, 9, 0, 0⟩
    let bad : Operands := ⟨3, 9, 1, 0⟩
    ((0 : Byte) = 0 ∧ eight.w = 0 ∧ eight.b.toNat ≤ 8) ∧ ¬ ((0 : Byte) = 0 ∧ bad.w = 0) ∧
    ((0 : Byte) = 0 ∧ nine.w = 0 ∧ 8 < nine.b.toNat) := by decide

theorem test_witness_FrameDataCopiesTheBytes :
    let good : Operands := ⟨0, 0, 0, 0xFF⟩
    let bad : Operands := ⟨0, 8, 0, 0xFF⟩
    ((0 : Byte) = 0 ∧ good.a = 0 ∧ good.b = 0 ∧ good.w = 0) ∧
    ¬ ((0 : Byte) = 0 ∧ bad.a = 0 ∧ bad.b = 0 ∧ bad.w = 0) := by decide

theorem test_witness_EncWithoutArgumentBuildsTheFrame :
    (Instr.encUpdateAll, Cmd.updateAll) ∈ encNoArgumentRows ∧
    (let good : Operands := ⟨0xFF, 0, 0, 0⟩; good.b = 0 ∧ good.w = 0 ∧ good.p = 0) ∧
    (let bad : Operands := ⟨3, 0, 1, 0⟩; ¬ (bad.b = 0 ∧ bad.w = 0 ∧ bad.p = 0)) :=
  ⟨List.mem_of_getElem? (i := 8) rfl, by decide, by decide⟩

theorem test_witness_EncSetPktLenChecksTheLength :
    let good : Operands := ⟨3, 0, 512, 0⟩
    let reserved : Operands := ⟨3, 1, 300, 0⟩
    let high : Operands := ⟨3, 0, 0x10008, 0⟩
    ((good.b = 0 ∧ good.p = 0) ∧ good.w.toNat ∈ [8, 16, 32, 64, 128, 256, 512]) ∧
    ¬ (reserved.b = 0 ∧ reserved.p = 0) ∧
    ((high.b = 0 ∧ high.p = 0) ∧ high.w.toNat ∉ [8, 16, 32, 64, 128, 256, 512]) := by decide

theorem test_witness_EncWordArgumentBuildsTheFrame :
    (Instr.encSetPktAddr, Cmd.setPktAddr) ∈
      ([(.encSetAppLen, .setAppLen), (.encSetPktAddr, .setPktAddr)] : List ((Operands → Instr) × Cmd)) ∧
    (let good : Operands := ⟨3, 0, 0xFFFFFFFF, 0⟩; good.b = 0 ∧ good.p = 0) ∧
    (let bad : Operands := ⟨3, 0, 0, 1⟩; ¬ (bad.b = 0 ∧ bad.p = 0)) :=
  ⟨List.mem_of_getElem? (i := 1) rfl, by decide, by decide⟩

theorem test_witness_EncHalfArgumentBuildsTheFrame :
    (Instr.encVerifyPkt, Cmd.verifyPkt) ∈
      ([(.encSetPktSeq, .setPktSeq), (.encVerifyPkt, .verifyPkt)] : List ((Operands → Instr) × Cmd)) ∧
    (let good : Operands := ⟨3, 0, 0xFFFF, 0⟩; good.b = 0 ∧ good.p = 0 ∧ good.w.toNat < 0x10000) ∧
    (let bad : Operands := ⟨3, 0, 0x10000, 0⟩; ¬ (bad.b = 0 ∧ bad.p = 0 ∧ bad.w.toNat < 0x10000)) :=
  ⟨List.mem_of_getElem? (i := 1) rfl, by decide, by decide⟩

theorem test_witness_EncVerifyAllBuildsTheFrame :
    (let r : Operands := ⟨3, 0, 0xFFFF, 0⟩; r.p = 0 ∧ r.b = 0 ∧ r.w.toNat < 0x10000) ∧
    (let r : Operands := ⟨3, 1, 0xFFFFFFFF, 0⟩; r.p = 0 ∧ r.b = 1) ∧
    (let r : Operands := ⟨3, 2, 0x10000, 0⟩; r.p = 0 ∧ 1 < r.b.toNat) ∧
    (let r : Operands := ⟨3, 2, 0, 1⟩; r.p ≠ 0) ∧
    (let r : Operands := ⟨3, 0, 0x10000, 0⟩; r.p = 0 ∧ r.b = 0 ∧ 0x10000 ≤ r.w.toNat) := by decide

/-- The fields of a `DEC` request. -/
def dec (w : Word32) (p : Payload) : Operands := ⟨0, 0, w, p⟩

theorem test_witness_DecWithoutAckValidatesTheResponse :
    (∃ row ∈ decRows, row.cmd = .getUpdStatus ∧ row.check = .none) ∧
    ¬ ((dec 0x800 0).a = 0 ∧ (dec 0x800 0).b = 0 ∧ (dec 0x800 0).w.toNat < 0x800) ∧
    ((dec 0x7FF 0).a = 0 ∧ (dec 0x7FF 0).b = 0 ∧ (dec 0x7FF 0).w.toNat < 0x800 ∧
      (dec 0x7FF 0).w.setWidth 11 ≠ block.cfg.raw.rspId) ∧
    ((dec 0x102 0).w.setWidth 11 = block.cfg.raw.rspId ∧ byteAt 0x04 0 ≠ block.cfg.raw.rspLenOf .getUpdStatus) ∧
    (byteAt 0x110303 0 = block.cfg.raw.rspLenOf .getUpdStatus ∧
      byteAt 0x110303 2 ≠ block.cfg.raw.opcOf .getUpdStatus + 0x40) ∧
    (byteAt 0xAA510303 0 = block.cfg.raw.rspLenOf .getUpdStatus ∧
      byteAt 0xAA510303 2 = block.cfg.raw.opcOf .getUpdStatus + 0x40) :=
  ⟨⟨_, List.mem_of_getElem? (i := 14) rfl, rfl, rfl⟩, by decide⟩

theorem test_witness_DecAckValidatesTheResponse :
    (∃ row ∈ decRows, row.cmd = .verifyAll ∧ row.check = .ack 0xA4) ∧
    ¬ ((dec 0x800 0).a = 0 ∧ (dec 0x800 0).b = 0 ∧ (dec 0x800 0).w.toNat < 0x800) ∧
    ((dec 0x7FF 0).a = 0 ∧ (dec 0x7FF 0).b = 0 ∧ (dec 0x7FF 0).w.toNat < 0x800 ∧
      (dec 0x7FF 0).w.setWidth 11 ≠ block.cfg.raw.rspId) ∧
    ((dec 0x102 0).w.setWidth 11 = block.cfg.raw.rspId ∧ byteAt 0x02 0 ≠ block.cfg.raw.rspLenOf .verifyAll) ∧
    (byteAt 0x0E0303 0 = block.cfg.raw.rspLenOf .verifyAll ∧ byteAt 0x0E0303 2 ≠ block.cfg.raw.opcOf .verifyAll + 0x40) ∧
    (byteAt 0xA34E0303 0 = block.cfg.raw.rspLenOf .verifyAll ∧
      byteAt 0xA34E0303 2 = block.cfg.raw.opcOf .verifyAll + 0x40 ∧ byteAt 0xA34E0303 3 ≠ 0xA4) ∧
    (byteAt 0xA44E0303 0 = block.cfg.raw.rspLenOf .verifyAll ∧
      byteAt 0xA44E0303 2 = block.cfg.raw.opcOf .verifyAll + 0x40 ∧ byteAt 0xA44E0303 3 = 0xA4) :=
  ⟨⟨_, List.mem_of_getElem? (i := 13) rfl, rfl, rfl⟩, by decide⟩

theorem test_witness_DecPrepareChecksTheMagic :
    ¬ ((dec 0x800 0).a = 0 ∧ (dec 0x800 0).b = 0 ∧ (dec 0x800 0).w.toNat < 0x800) ∧
    ((dec 0x7FF 0).a = 0 ∧ (dec 0x7FF 0).b = 0 ∧ (dec 0x7FF 0).w.toNat < 0x800 ∧
      (dec 0x7FF 0).w.setWidth 11 ≠ block.cfg.raw.rspId) ∧
    ((dec 0x102 0).w.setWidth 11 = block.cfg.raw.rspId ∧ byteAt 0x06 0 ≠ 5) ∧
    (byteAt 0x020305 0 = 5 ∧ byteAt 0x020305 2 ≠ block.cfg.raw.opcOf .prepare + 0x40) ∧
    (byteAt 0xCD420305 0 = 5 ∧ byteAt 0xCD420305 2 = block.cfg.raw.opcOf .prepare + 0x40 ∧ byteAt 0xCD420305 3 ≠ 0xCC) ∧
    (byteAt 0xFFCC420305 0 = 5 ∧ byteAt 0xFFCC420305 2 = block.cfg.raw.opcOf .prepare + 0x40 ∧
      byteAt 0xFFCC420305 3 = 0xCC ∧ byteAt 0xFFCC420305 4 ≠ 0xFE) ∧
    (byteAt 0xFECC420305 0 = 5 ∧ byteAt 0xFECC420305 2 = block.cfg.raw.opcOf .prepare + 0x40 ∧
      byteAt 0xFECC420305 3 = 0xCC ∧ byteAt 0xFECC420305 4 = 0xFE) := by decide

/-- Sixteen bytes that are a NOP. -/
def nopBytes : List Byte := [0x00, 0, 0, 0, 0, 0, 0, 0, 0, 0, 0, 0, 0, 0, 0, 0]

/-- The block with these bytes offered. -/
def offer (bs : List Byte) : State := { block with port := byteEvents bs }

theorem test_witness_StepRunsTheDecodedInstruction :
    (offer (nopBytes ++ [0x03])).port = byteEvents nopBytes ++ byteEvents [0x03] ∧
    decode nopBytes = .ok (.nop 0 zeros) := by decide

theorem test_witness_DecodeAndEncodeAgree : decode nopBytes = .ok (.nop 0 zeros) := by decide

theorem test_witness_OpPicksThePlainOperation :
    ((0x09 : Byte), Instr.frameData) ∈
      ([(0x00, .nop), (0x01, .crc16Init), (0x02, .crc16Feed), (0x03, .crc16Read), (0x04, .crc32Init),
        (0x05, .crc32Feed), (0x06, .crc32Read), (0x08, .frameCmd), (0x09, .frameData)] :
        List (Byte × (Byte → Operands → Instr))) := List.mem_of_getElem? (i := 8) rfl

theorem test_witness_SelectorPicksTheCommand :
    encBySelector[(0x10 : Byte).toNat]? = some (some Instr.encGetUpdStatus) ∧
    (∀ make, encBySelector[(0x0B : Byte).toNat]? ≠ some (some make)) ∧
    (∀ make, encBySelector[(0x11 : Byte).toNat]? ≠ some (some make)) ∧
    decBySelector[(0x0B : Byte).toNat]? = some (some Instr.decSendPkt) ∧
    (∀ make, decBySelector[(0x0E : Byte).toNat]? ≠ some (some make)) ∧
    (∀ make, decBySelector[(0x11 : Byte).toNat]? ≠ some (some make)) :=
  ⟨rfl, fun _ h => (by cases h), fun _ h => (by cases h), rfl, fun _ h => (by cases h), fun _ h => (by cases h)⟩

theorem test_witness_ReservedOpIsIllegal :
    ((0x07 : Byte) = 0x07 ∨ 0x0C ≤ (0x07 : Byte).toNat) ∧ ((0x0C : Byte) = 0x07 ∨ 0x0C ≤ (0x0C : Byte).toNat) ∧
    ((0xFF : Byte) = 0x07 ∨ 0x0C ≤ (0xFF : Byte).toNat) ∧ (List.replicate 15 (0xAA : Byte)).length = 15 ∧
    (offer (0x0C :: List.replicate 15 0xAA)).port = byteEvents (0x0C :: List.replicate 15 0xAA) ++ [] := by decide

theorem test_witness_IllegalSelectorIsAnswered :
    (∀ k ∈ ([0x0B, 0x11, 0xFF] : List Byte), k = 0x0B ∨ 0x10 < k.toNat) ∧
    (∀ k ∈ ([0x0E, 0x0F, 0x11, 0xFF] : List Byte), k = 0x0E ∨ k = 0x0F ∨ 0x10 < k.toNat) ∧
    (List.replicate 14 (0xAA : Byte)).length = 14 ∧
    (offer (0x0B :: 0x11 :: List.replicate 14 0xAA)).port = byteEvents (0x0B :: 0x11 :: List.replicate 14 0xAA) ++ [] := by
  decide

theorem test_witness_BytesPastTheCountAreIgnored :
    (Instr.frameCmd ∈ ([.crc16Feed, .crc32Feed, .frameCmd] : List (Byte → Operands → Instr))) ∧
    (∀ i, i < 8 → i < (2 : Byte).toNat → byteAt 0xFF0201 i = byteAt 0x0201 i) ∧ (0xFF0201 : Payload) ≠ 0x0201 ∧
    (Instr.crc32Feed ∈ ([.crc16Feed, .crc32Feed] : List (Byte → Operands → Instr))) ∧ 8 < (9 : Byte).toNat :=
  ⟨List.mem_of_getElem? (i := 2) rfl, by decide, by decide, List.mem_of_getElem? (i := 1) rfl, by decide⟩

theorem test_witness_IllegalRequestIffNotWellFormed :
    exec (.nop 1 zeros) block = .next (block.respond (illegalRequest .reserved)) ∧
    (block.respond (illegalRequest .reserved)).rsp = some (illegalRequest .reserved) ∧
    exec (.nop 0 zeros) block = .next (block.respond okDone) ∧ (block.respond okDone).rsp = some okDone :=
  ⟨rfl, rfl, rfl, rfl⟩

theorem test_witness_ErrorsWriteNoState :
    (0x07 :: List.replicate 15 (0 : Byte)).length = 16 ∧
    (offer (0x07 :: List.replicate 15 0)).port = byteEvents (0x07 :: List.replicate 15 0) ++ [] ∧
    step (offer (0x07 :: List.replicate 15 0)) = .next (block.respond (illegalRequest .op)) ∧
    (illegalRequest .op).st ≠ .ok := ⟨rfl, rfl, rfl, by decide⟩

theorem test_witness_ErrorsLeaveNoTrace :
    exec (.crc16Read 0 zeros) block = .next (block.respond (notInitialised .crc16)) ∧
    (block.respond (notInitialised .crc16)).rsp = some (notInitialised .crc16) ∧ (notInitialised .crc16).st ≠ .ok :=
  ⟨rfl, rfl, by decide⟩

theorem test_witness_StepKeepsResponsesWellShaped :
    (offer nopBytes).PortWellShaped ∧ step (offer nopBytes) = .next (block.respond okDone) :=
  ⟨fun _ h => (by cases h), rfl⟩

theorem test_witness_UnitsShareNoState :
    (exec (.frameData 0 zeros) block = .next (block.respond (okResponse 0x101 0)) ∧ (Instr.frameData 0 zeros).op = 0x09) ∧
    (exec (.crc16Init 0 zeros) block = .next ((block.initAcc16 0).respond okDone) ∧ (Instr.crc16Init 0 zeros).op = 0x01) ∧
    (exec (.crc32Read 0 zeros) block = .next (block.respond (notInitialised .crc32)) ∧
      (Instr.crc32Read 0 zeros).op = 0x06) := ⟨⟨rfl, rfl⟩, ⟨rfl, rfl⟩, ⟨rfl, rfl⟩⟩

theorem test_witness_ValidBitsFollowInit :
    (exec (.crc16Init 0 zeros) block = .next ((block.initAcc16 0).respond okDone) ∧ (Instr.crc16Init 0 zeros).op = 0x01 ∧
      (Instr.crc16Init 0 zeros).wellFormed = true) ∧
    (exec (.crc16Init 1 zeros) block = .next (block.respond (illegalRequest .reserved)) ∧
      ¬ ((Instr.crc16Init 1 zeros).op = 0x01 ∧ (Instr.crc16Init 1 zeros).wellFormed = true)) ∧
    (exec (.crc32Init 0 zeros) block = .next ((block.initAcc32 0xFFFFFFFF).respond okDone) ∧
      (Instr.crc32Init 0 zeros).op = 0x04 ∧ (Instr.crc32Init 0 zeros).wellFormed = true) ∧
    (exec (.nop 0 zeros) block = .next (block.respond okDone) ∧
      ¬ ((Instr.nop 0 zeros).op = 0x04 ∧ (Instr.nop 0 zeros).wellFormed = true)) ∧
    (exec (.crc16Feed 0 zeros) block = .next (block.respond (notInitialised .crc16)) ∧ (Instr.crc16Feed 0 zeros).op = 0x02 ∧
      (Instr.crc16Feed 0 zeros).wellFormed = true ∧ block.v16 = false) ∧
    (exec (.crc32Feed 0 zeros) block = .next (block.respond (notInitialised .crc32)) ∧ (Instr.crc32Feed 0 zeros).op = 0x05 ∧
      (Instr.crc32Feed 0 zeros).wellFormed = true ∧ block.v32 = false) := by
  refine ⟨⟨rfl, by decide⟩, ⟨rfl, by decide⟩, ⟨rfl, by decide⟩, ⟨rfl, by decide⟩, ⟨rfl, by decide⟩, ⟨rfl, by decide⟩⟩

theorem test_witness_OnlyInitAndFeedChangeState :
    exec (.frameData 0 zeros) block = .next (block.respond (okResponse 0x101 0)) ∧
    (Instr.frameData 0 zeros).op ≠ 0x01 ∧ (Instr.frameData 0 zeros).op ≠ 0x02 ∧ (Instr.frameData 0 zeros).op ≠ 0x04 ∧
    (Instr.frameData 0 zeros).op ≠ 0x05 := ⟨rfl, by decide⟩

/-- Two different states that no request can tell apart, and a step of the first. -/
theorem test_witness_UnwrittenAccumulatorsAreUnobservable :
    (offer nopBytes).SameObservable { offer nopBytes with acc16 := 0xBEEF, acc32 := 0xDEADBEEF } ∧
    (offer nopBytes).acc16 ≠ 0xBEEF ∧ step (offer nopBytes) = .next (block.respond okDone) :=
  ⟨⟨rfl, rfl, rfl, rfl, rfl, rfl, fun h => (by cases h), fun h => (by cases h)⟩, by decide, rfl⟩

theorem test_witness_StepKeepsTheConfiguration : step (offer nopBytes) = .next (block.respond okDone) := rfl

theorem test_witness_ResetDiscardsAndClears :
    ([] : List Byte).length < 16 ∧ (List.replicate 15 (0x03 : Byte)).length < 16 := by decide

theorem test_witness_IncompleteRequestWaits :
    (List.replicate 15 (0x03 : Byte)).length < 16 ∧
    (offer (List.replicate 15 0x03)).port = byteEvents (List.replicate 15 0x03) := by decide

/-- A legal configuration, and one that breaks each item of R27. -/
theorem test_witness_BuildRefusesAnIllegalConfiguration :
    e1.raw.legal = true ∧ Cfg.legal { e1.raw with rspId := 0x100 } = false ∧
    Cfg.legal { e1.raw with opc := { e1.raw.opc with updateAll := 0x40 } } = false ∧
    Cfg.legal { e1.raw with rspLen := { e1.raw.rspLen with getDevInfo := 8 } } = false ∧
    Cfg.legal { e1.raw with rspLen := { e1.raw.rspLen with verifyAll := 4 } } = false ∧
    Cfg.legal { e1.raw with rspLen := { e1.raw.rspLen with setAppLen := 5 } } = false := by decide

theorem test_witness_DecAcceptsExactlyTheMatchingFrames :
    (∃ row ∈ decRows, row.cmd = .getUpdStatus ∧
      Accepts (row.make (dec 0x102 0xAA510303)) block ∧ ¬ Accepts (row.make (dec 0x102 0xAA500303)) block) ∧
    (dec 0x102 0xAA510303).a = 0 ∧ (dec 0x102 0xAA510303).b = 0 ∧ (dec 0x102 0xAA510303).w.toNat < 0x800 :=
  ⟨⟨_, List.mem_of_getElem? (i := 14) rfl, rfl, ⟨_, _, rfl, rfl, rfl⟩,
    fun ⟨_, _, h1, h2, h3⟩ => (by cases h1; cases h2; cases h3)⟩, by decide⟩

theorem test_witness_SingleBitCorruptionIsSeenInCheckedBytes :
    ∃ row ∈ decRows, Accepts (row.make (dec 0x102 0xFECC420305)) block ∧ 0 < 64 ∧ 63 < 64 ∧
      40 / 8 ∉ row.check.checkedBytes ∧ 39 / 8 ∈ row.check.checkedBytes :=
  ⟨_, List.mem_of_getElem? (i := 1) rfl, ⟨_, _, rfl, rfl, rfl⟩, by decide, by decide, by decide, by decide⟩

theorem test_witness_EncFrameIsATemplateFrame :
    (Instr.encPrepare ⟨3, 0, 0, 0⟩).op = 0x0A ∧
    exec (.encPrepare ⟨3, 0, 0, 0⟩) block = .next (block.respond (okResponse 0x100 0x020302)) ∧
    (block.respond (okResponse 0x100 0x020302)).rsp = some (okResponse 0x100 0x020302) ∧
    (okResponse 0x100 0x020302).st = .ok := ⟨rfl, rfl, rfl, rfl⟩

theorem test_witness_PacketGoesAsDataFrames :
    (List.replicate 16 (0x55 : Byte)).length = 8 * 2 ∧ 0 < 2 ∧ 1 < 2 ∧ 7 < 8 := by decide

theorem test_witness_Crc16BufComputesTheFunction :
    { block with port := Asm.offered (Asm.crc16Buf ((0xFFFF : BitVec 16).setWidth 32) [0x31]) }.port =
      Asm.offered (Asm.crc16Buf ((0xFFFF : BitVec 16).setWidth 32) [0x31]) ++ [] := by decide

theorem test_witness_Crc32BufComputesTheFunction :
    { block with port := Asm.offered (Asm.crc32Buf 0 []) }.port = Asm.offered (Asm.crc32Buf 0 []) ++ [] := by decide

/-- A replaced default at its least and at its greatest value, and one that is kept. -/
def replaced : LenChoices := { sendPkt := some 7, setAppLen := some 6 }

theorem test_witness_DefaultLengthsHoldUnlessReplaced :
    State.buildFrom e1Open {} = .next block ∧
    (e1Open.cmdId ≠ e1Open.datId ∧ e1Open.cmdId ≠ e1Open.rspId ∧ e1Open.datId ≠ e1Open.rspId) ∧
    (∀ k : Cmd, ((Cfg.ofBuilder e1Open replaced).opcOf k).getLsbD 6 = false) ∧
    (∀ x ∈ [(2, e1Open.lens.getDevInfo), (2, e1Open.lens.getAppVer), (2, e1Open.lens.getHwType), (3, e1Open.lens.getBatSn),
      (2, e1Open.lens.setPktAddr)], x.1 ≤ x.2.toNat ∧ x.2.toNat ≤ 7) ∧
    (∀ x ∈ [(4, replaced.getPktLen), (6, replaced.setAppLen), (5, replaced.setPktSeq), (3, replaced.sendPkt),
      (3, replaced.verifyPkt), (3, replaced.getUpdStatus)], ∀ l ∈ x.2, x.1 ≤ l.toNat ∧ l.toNat ≤ 7) :=
  ⟨rfl, by decide, fun k => (by cases k <;> rfl), by decide, by decide⟩

end Sys2Proof.Tests
end

/-! PROOFS. The statements about the state of 10_state.md: what the two units share (R32), and from which configurations a
block is built (R27). -/

namespace Sys2Proof

/-! ### The legal configurations -/

theorem Cmd.mem_all (k : Cmd) : k ∈ Cmd.all := by cases k <;> decide

theorem RspCmd.mem_all (k : RspCmd) : k ∈ RspCmd.all := by cases k <;> decide

/-- The five items of R27 for every command, without the lists that `Cfg.legal` runs through. -/
def Cfg.MeetsConditions (c : Cfg) : Prop :=
  (c.cmdId.toNat < 0x800 ∧ c.datId.toNat < 0x800 ∧ c.rspId.toNat < 0x800 ∧
    c.cmdId ≠ c.datId ∧ c.cmdId ≠ c.rspId ∧ c.datId ≠ c.rspId) ∧
  (∀ k : Cmd, (c.opcOf k).getLsbD 6 = false) ∧
  (∀ k : RspCmd, 2 ≤ (c.rspLenOf k).toNat ∧ (c.rspLenOf k).toNat ≤ 7) ∧
  (c.rspLenOf .prepare = 5 ∧ c.rspLenOf .getBlVer = 7 ∧ c.rspLenOf .setPktLen = 3 ∧ c.rspLenOf .verifyAll = 3) ∧
  (∀ k : RspCmd, k.minLen ≤ (c.rspLenOf k).toNat)

/-- The check runs through every command, and the width of an identifier is its bound (log 11). -/
theorem Cfg.legal_iff (c : Cfg) : c.legal = true ↔ c.MeetsConditions := by
  have id_lt (x : CanId) : x.toNat < 0x800 := x.isLt
  simp only [Cfg.legal, Cfg.MeetsConditions, Bool.and_eq_true, List.all_eq_true, Cmd.mem_all, RspCmd.mem_all,
    forall_const, bne_iff_ne, beq_iff_eq, decide_eq_true_eq, id_lt, true_and, and_assoc]

end Sys2Proof

namespace Sys2Proof.Machine

/-- No block is built from an illegal configuration. -/
theorem State.build_eq_refused {c : Cfg} (h : ¬ c.legal = true) : State.build c = .refused .illegalCfg := dif_neg h

/-- Settles O41: the check that `State.build` makes is the five items of R27. -/
theorem buildRefusesAnIllegalConfiguration : Obligations.BuildRefusesAnIllegalConfiguration := by
  intro c legal
  have hiff : c.legal = true ↔ legal := c.legal_iff
  constructor
  · intro h
    exact ⟨_, State.build_eq_next_iff.mpr ⟨hiff.mpr h, rfl⟩, rfl⟩
  · intro h
    exact State.build_eq_refused (mt hiff.mp h)

/-! ### The state of each CRC width, overwritten -/

/-- The state with other values in the CRC16 half. -/
def State.withCrc16 (s : State) (a : BitVec 16) (v : Bool) : State := { s with acc16 := a, v16 := v }

/-- The state with other values in the CRC32 half. -/
def State.withCrc32 (s : State) (a : BitVec 32) (v : Bool) : State := { s with acc32 := a, v32 := v }

/-- Running checks does not look at the CRC16 half: which check fails is fixed by the list alone. -/
theorem State.answer_withCrc16 {s done done' : State} {cs : List Check} {a : BitVec 16} {v : Bool}
    (h : done' = done.withCrc16 a v) : (s.withCrc16 a v).answer cs done' = (s.answer cs done).withCrc16 a v := by
  subst h
  unfold State.answer
  cases firstFailing cs <;> rfl

/-- Running checks does not look at the CRC32 half. -/
theorem State.answer_withCrc32 {s done done' : State} {cs : List Check} {a : BitVec 32} {v : Bool}
    (h : done' = done.withCrc32 a v) : (s.withCrc32 a v).answer cs done' = (s.answer cs done).withCrc32 a v := by
  subst h
  unfold State.answer
  cases firstFailing cs <;> rfl

/-! ### The codec -/

/-- All that the operation does is emit a response, and of the state it reads the configuration alone. -/
def OnlyResponds (run : State → State) : Prop := ∃ f : LegalCfg → Response, ∀ s, run s = s.respond (f s.cfg)

/-- As an outcome, such an operation is a next state with a response that the configuration fixes. -/
theorem OnlyResponds.next {run : State → State} (h : OnlyResponds run) :
    ∃ f : LegalCfg → Response, ∀ s, (.next (run s) : Host.Outcome State Fault Refusal) = .next (s.respond (f s.cfg)) :=
  h.imp fun _ hf s => congrArg Host.Outcome.next (hf s)

/-- Checks on the request alone, and a response made from the configuration when they pass (R131 to R133). -/
theorem answer_onlyResponds (cs : List Check) (x : LegalCfg → Response) :
    OnlyResponds fun s => s.answer cs (s.respond (x s.cfg)) :=
  ⟨fun cfg => (firstFailing cs).getD (x cfg), fun s => s.answer_respond _ _⟩

/-- The encoder only responds (R143). -/
theorem encCommand_onlyResponds (c : Cmd) (cs : List Check) (d : List Byte) (r : Operands) :
    OnlyResponds (encCommand c cs d r) :=
  answer_onlyResponds (reservedCheck (r.p != 0) :: cs)
    fun cfg => okResponse (zext32 cfg.raw.cmdId) (commandFrame r.a (cfg.raw.opcOf c) d)

/-- The validator only responds (R135): its checks and its extraction read the configuration and the request. -/
theorem decResponse_onlyResponds (c : RspCmd) (check : RspCheck) (extract : Payload → Word32) (r : Operands) :
    OnlyResponds (decResponse c check extract r) :=
  ⟨fun cfg => (firstFailing
      (reservedCheck (r.a != 0 || r.b != 0 || aboveId r.w != 0)
       :: (idField r.w != cfg.raw.rspId, idMismatchResponse)
       :: (byteAt r.p 0 != cfg.raw.rspLenOf c, validationFailed .length (cfg.raw.rspLenOf c) (byteAt r.p 0))
       :: (byteAt r.p 2 != expectedStatus cfg.raw c,
            validationFailed .status (expectedStatus cfg.raw c) (byteAt r.p 2))
       :: check.checks r.p)).getD
      (okResponse (extract r.p) (dataBytes (cfg.raw.rspLenOf c) r.p)),
    fun s => s.answer_respond _ _⟩

/-- R32 for the codec: one of its operations only emits a response, and of the state it reads the configuration alone. -/
theorem exec_codec {i : Instr} (hi : i.op = 0x00 ∨ i.op = 0x08 ∨ i.op = 0x09 ∨ i.op = 0x0A ∨ i.op = 0x0B) :
    ∃ f : LegalCfg → Response, ∀ s, exec i s = .next (s.respond (f s.cfg)) := by
  cases i with
  | nop k r => exact (answer_onlyResponds _ fun _ => okDone).next
  | frameCmd k r =>
    exact (answer_onlyResponds _
      fun cfg => okResponse (zext32 cfg.raw.cmdId) (templateFrame r.a r.b.toNat r.p)).next
  | frameData k r => exact (answer_onlyResponds _ fun cfg => okResponse (zext32 cfg.raw.datId) r.p).next
  | encGetDevInfo r | encPrepare r | encGetBlVer r | encGetAppVer r | encGetHwType r | encGetBatSn r
  | encGetPktLen r | encSetPktLen r | encSetAppLen r | encSetPktSeq r | encSetPktAddr r | encVerifyPkt r
  | encVerifyAll r | encUpdateCur r | encUpdateAll r | encGetUpdStatus r =>
    exact (encCommand_onlyResponds _ _ _ r).next
  | decGetDevInfo r | decPrepare r | decGetBlVer r | decGetAppVer r | decGetHwType r | decGetBatSn r
  | decGetPktLen r | decSetPktLen r | decSetAppLen r | decSetPktSeq r | decSetPktAddr r | decSendPkt r
  | decVerifyPkt r | decVerifyAll r | decGetUpdStatus r =>
    exact (decResponse_onlyResponds _ _ _ r).next
  | _ => simp [Instr.op] at hi

/-! ### The CRC units -/

/-- R32 for CRC16: whatever the CRC32 half holds, its operations do the same and carry that half along. -/
theorem exec_crc16_withCrc32 {i : Instr} {s t : State} (hi : i.op = 0x01 ∨ i.op = 0x02 ∨ i.op = 0x03)
    (h : exec i s = .next t) (a : BitVec 32) (v : Bool) : exec i (s.withCrc32 a v) = .next (t.withCrc32 a v) := by
  cases i with
  | crc16Init k r | crc16Feed k r | crc16Read k r =>
    cases h
    exact congrArg Host.Outcome.next (State.answer_withCrc32 rfl)
  | _ => simp [Instr.op] at hi

/-- R32 for CRC32: whatever the CRC16 half holds, its operations do the same and carry that half along. -/
theorem exec_crc32_withCrc16 {i : Instr} {s t : State} (hi : i.op = 0x04 ∨ i.op = 0x05 ∨ i.op = 0x06)
    (h : exec i s = .next t) (a : BitVec 16) (v : Bool) : exec i (s.withCrc16 a v) = .next (t.withCrc16 a v) := by
  cases i with
  | crc32Init k r | crc32Feed k r | crc32Read k r =>
    cases h
    exact congrArg Host.Outcome.next (State.answer_withCrc16 rfl)
  | _ => simp [Instr.op] at hi

/-- An operation that carries any values of the CRC16 half along leaves the half it finds. -/
theorem crc16_unchanged {i : Instr} {s t : State} (h : exec i s = .next t)
    (hc : ∀ a v, exec i (s.withCrc16 a v) = .next (t.withCrc16 a v)) : t.acc16 = s.acc16 ∧ t.v16 = s.v16 := by
  have ht : t = t.withCrc16 s.acc16 s.v16 := Host.Outcome.next.inj (h.symm.trans (hc s.acc16 s.v16))
  exact ⟨(congrArg State.acc16 ht :), (congrArg State.v16 ht :)⟩

/-- An operation that carries any values of the CRC32 half along leaves the half it finds. -/
theorem crc32_unchanged {i : Instr} {s t : State} (h : exec i s = .next t)
    (hc : ∀ a v, exec i (s.withCrc32 a v) = .next (t.withCrc32 a v)) : t.acc32 = s.acc32 ∧ t.v32 = s.v32 := by
  have ht : t = t.withCrc32 s.acc32 s.v32 := Host.Outcome.next.inj (h.symm.trans (hc s.acc32 s.v32))
  exact ⟨(congrArg State.acc32 ht :), (congrArg State.v32 ht :)⟩

/-- Settles O34: each group of operations acts alike whatever the other unit's half of the state holds; writing back the
values that stand there shows that it leaves them. -/
theorem unitsShareNoState : Obligations.UnitsShareNoState := by
  intro i s t a16 w16 a32 w32 h
  refine ⟨fun hi => ?codec, fun hi => ?crc16, fun hi => ?crc32⟩
  case codec =>
    obtain ⟨f, hf⟩ := exec_codec hi
    have ht : t = s.respond (f s.cfg) := Host.Outcome.next.inj (h.symm.trans (hf s))
    subst ht
    exact ⟨⟨rfl, rfl, rfl, rfl⟩, hf _⟩
  case crc16 =>
    have hc := exec_crc16_withCrc32 hi h
    exact ⟨crc32_unchanged h hc, hc a32 w32⟩
  case crc32 =>
    have hc := exec_crc32_withCrc16 hi h
    exact ⟨crc16_unchanged h hc, hc a16 w16⟩

end Sys2Proof.Machine

/-! PROOFS. The statements about the encoding of 30_encoding.md: the bytes past a count (R67), reserved opcodes (R65), the
expected status byte (R74), and the data frames of a packet (R75). -/

namespace Sys2Proof

/-! ### The expected status byte -/

/-- In a legal configuration no opcode shares a bit with 0x40 (R27 item 2). -/
theorem LegalCfg.opcOf_and_0x40 (c : LegalCfg) (k : Cmd) : c.raw.opcOf k &&& 0x40 = 0 := by
  obtain ⟨_, hbit6, _⟩ := c.raw.legal_iff.mp c.legal
  calc c.raw.opcOf k &&& 0x40 = c.raw.opcOf k &&& BitVec.twoPow 8 6 := rfl
    _ = 0 := by rw [BitVec.and_twoPow, hbit6 k]; rfl

/-- Settles O42: numbers without a common bit add as they join, and nothing is carried. -/
theorem expectedStatusIsSumAndDisjunction : Obligations.ExpectedStatusIsSumAndDisjunction := by
  intro c k
  have hdisjoint := c.opcOf_and_0x40 k.cmd
  exact ⟨rfl, BitVec.add_eq_or_of_and_eq_zero _ _ hdisjoint, BitVec.toNat_add_of_and_eq_zero hdisjoint⟩

/-! ### Reserved opcodes -/

/-- The first two bytes of a request word are `OP` and `K`; the other 14 make up the operands, whatever they are. -/
theorem decode_eq_decodeFields (op k : Byte) {others : List Byte} (h : others.length = 14) :
    ∃ r, decode (op :: k :: others) = decodeFields op k r := by
  match others, h with
  | [_, _, _, _, _, _, _, _, _, _, _, _, _, _], _ => exact ⟨_, rfl⟩

/-- An `OP` that names no row of the table is illegal, whatever the other fields hold (R65). -/
theorem decodeFields_reserved {op : Byte} (h : op = 0x07 ∨ 0x0C ≤ op.toNat) (k : Byte) (r : Operands) :
    decodeFields op k r = .error .illegalOp := by
  have hne (row : Byte) (hrow : row ≠ 0x07) (hlt : row.toNat < 0x0C) : op ≠ row := by
    rintro rfl
    exact h.elim hrow (by omega)
  simp [decodeFields, hne]

end Sys2Proof

namespace Sys2Proof.Machine

/-- A whole request that names no instruction is taken from the port and answered, and nothing else changes. -/
theorem step_decode_error {s : State} {bs : List Byte} {rest : List PortEvent} {e : DecodeError}
    (hport : s.port = byteEvents bs ++ rest) (hlen : bs.length = 16) (hdecode : decode bs = .error e) :
    step s = .next (State.raise { s with port := rest } (decodeErrorResponse e)) := by
  simp only [step, hport, takeRequest_request bs rest hlen, hdecode]

/-- Settles O23: the decoder rejects the word by its first byte, and the step answers the rejection. -/
theorem reservedOpIsIllegal : Obligations.ReservedOpIsIllegal := by
  intro s op others rest hop hlen hport
  obtain ⟨k, others, rfl⟩ := List.exists_cons_of_length_eq_add_one hlen
  obtain ⟨r, hdecode⟩ := decode_eq_decodeFields op k (Nat.succ.inj hlen)
  exact step_decode_error hport (congrArg Nat.succ hlen) (hdecode.trans (decodeFields_reserved hop k r))

/-! ### Bytes past the count -/

/-- The counted bytes are fixed by the payload bytes below the count. -/
theorem countedBytes_congr {r : Operands} {p : Payload} (h : ∀ i, i < 8 → i < r.b.toNat → byteAt p i = byteAt r.p i) :
    countedBytes { r with p := p } = countedBytes r := by
  simp only [countedBytes, payloadBytes, ← List.map_take, List.take_range]
  refine List.map_congr_left fun i hi => ?_
  obtain ⟨hcount, hi8⟩ := Nat.lt_min.mp (List.mem_range.mp hi)
  exact h i hi8 hcount

/-- A template frame is fixed by the template bytes below the count (R132). -/
theorem templateFrame_congr {p q : Payload} {n : Nat} (h : ∀ i, i < 8 → i < n → byteAt p i = byteAt q i) (addr : Byte) :
    templateFrame addr n p = templateFrame addr n q := by
  refine payload_ext fun i hi => ?_
  rw [byteAt_templateFrame addr n p hi, byteAt_templateFrame addr n q hi]
  by_cases hn : i < n
  · rw [h i hi hn]
  · simp only [if_neg hn]

/-- With its reserved fields 0, an operation that checks a count next rejects one above 8 (R67, R208). -/
theorem State.answer_count_gt_eight {b : Byte} (h : 8 < b.toNat) (s : State) (cs : List Check) (done : State) :
    s.answer (reservedCheck false :: rangeCheck b :: cs) done = s.raise (illegalRequest .range) := by
  simp [reservedCheck, rangeCheck, h]

/-- Settles O25: the three operations use the payload through the counted bytes or the template frame alone. -/
theorem bytesPastTheCountAreIgnored : Obligations.BytesPastTheCountAreIgnored := by
  refine ⟨fun make hmake k r p s h => ?ignored, fun make hmake b p s hb => ?feedRange, fun a b p s hb => ?cmdRange⟩
  case ignored =>
    have hcounted := countedBytes_congr h
    simp only [List.mem_cons, List.not_mem_nil, or_false] at hmake
    obtain rfl | rfl | rfl := hmake
    · simp only [exec, execCrc16Feed, hcounted]
    · simp only [exec, execCrc32Feed, hcounted]
    · simp only [exec, execFrameCmd, templateFrame_congr h]
  case feedRange =>
    simp only [List.mem_cons, List.not_mem_nil, or_false] at hmake
    obtain rfl | rfl := hmake
    · exact congrArg Host.Outcome.next (State.answer_count_gt_eight hb s [initialisedCheck s.v16 .crc16] _)
    · exact congrArg Host.Outcome.next (State.answer_count_gt_eight hb s [initialisedCheck s.v32 .crc32] _)
  case cmdRange => exact congrArg Host.Outcome.next (State.answer_count_gt_eight hb s [] _)

end Sys2Proof.Machine

/-! ### The data frames of a packet -/

namespace Sys2Proof.Asm

open Sys2Proof.Machine

/-- Eight bytes or more begin with a chunk of eight. -/
theorem chunksOf8_of_le_length {bs : List Byte} (h : 8 ≤ bs.length) :
    chunksOf8 bs = bs.take 8 :: chunksOf8 (bs.drop 8) := by
  match bs, h with
  | _ :: _ :: _ :: _ :: _ :: _ :: _ :: _ :: _, _ => rfl

/-- The bytes `8j .. 8j+7` of a packet (R75). -/
def chunkAt (bs : List Byte) (j : Nat) : List Byte := (bs.drop (8 * j)).take 8

theorem getD_chunkAt (bs : List Byte) (j : Nat) {m : Nat} (hm : m < 8) : (chunkAt bs j).getD m 0 = bs.getD (8 * j + m) 0 := by
  simp [chunkAt, List.getD_eq_getElem?_getD, hm]

/-- A whole number of chunks, in order. -/
theorem chunksOf8_eq_map_range {n : Nat} {bs : List Byte} (h : bs.length = 8 * n) :
    chunksOf8 bs = (List.range n).map (chunkAt bs) := by
  induction n generalizing bs with
  | zero => rw [List.eq_nil_of_length_eq_zero h]; rfl
  | succ n ih =>
    have hrest : (bs.drop 8).length = 8 * n := by rw [List.length_drop]; omega
    rw [chunksOf8_of_le_length (by omega), ih hrest, List.range_succ_eq_map]
    simp [chunkAt, Nat.mul_succ, Nat.add_comm]

/-- What `frame.data` does: its bytes go out as a frame with `Cfg.DAT_ID`, and nothing else changes (R133). -/
theorem exec_frameData (bs : List Byte) (s : State) :
    exec (frameData bs) s = .next (s.respond (okResponse (zext32 s.cfg.raw.datId) (paddedFrame bs))) := rfl

/-- Settles O47: `send.packet` maps `frame.data` over the packet's chunks. -/
theorem packetGoesAsDataFrames : Obligations.PacketGoesAsDataFrames := by
  intro n bs s h
  have hpacket : sendPacket bs = (List.range n).map fun j => frameData (chunkAt bs j) := by
    rw [sendPacket, chunksOf8_eq_map_range h, List.map_map]; rfl
  refine ⟨by simp [hpacket], fun j hj => ⟨frameData (chunkAt bs j), paddedFrame (chunkAt bs j), ?request, ?answer, ?bytes⟩⟩
  case request => simp [hpacket, hj]
  case answer => rw [exec_frameData, zext32_canId]; rfl
  case bytes =>
    intro m hm
    rw [byteAt_paddedFrame _ hm, getD_chunkAt bs j hm]

end Sys2Proof.Asm

/-! PROOFS. The statements about the operations of the CRC unit (40_crc.md R102 to R104, R115 to R117) and about the CRC of
no bytes (R106, R118). -/

namespace Sys2Proof.Machine

/-! ### The shared checks -/

/-- A nonzero reserved field is reported before any other check runs (R66, R208). -/
theorem State.answer_reservedCheck {nonzero : Bool} {allZero : Prop} [Decidable allZero] (h : nonzero = false ↔ allZero)
    (s : State) (cs : List Check) (done : State) :
    s.answer (reservedCheck nonzero :: cs) done =
      if allZero then s.answer cs done else s.raise (illegalRequest .reserved) := by
  rw [reservedCheck, State.answer_cons]
  cases nonzero with
  | false => rw [if_pos (h.mp rfl)]; rfl
  | true => rw [if_neg (mt h.mpr Bool.true_eq_false.mp)]; rfl

/-- A count above 8 is reported before the checks behind it run (R67, R208). -/
theorem State.answer_rangeCheck (s : State) (b : Byte) (cs : List Check) (done : State) :
    s.answer (rangeCheck b :: cs) done =
      if 8 < b.toNat then s.raise (illegalRequest .range) else s.answer cs done := by
  simp only [rangeCheck, State.answer_cons, decide_eq_true_eq]

/-- The last check of the operations that use an accumulator: its valid bit (R22, R206). -/
theorem State.answer_initialisedCheck (s : State) (valid : Bool) (fld : Field) (done : State) :
    s.answer [initialisedCheck valid fld] done = if valid = true then done else s.raise (notInitialised fld) := by
  cases valid <;> rfl

/-- The checks of a feed, for either width (R103, R116). -/
theorem State.answer_feedChecks (s : State) (k : Byte) (r : Operands) (valid : Bool) (fld : Field) (done : State) :
    s.answer [reservedCheck (k != 0 || r.a != 0 || r.w != 0), rangeCheck r.b, initialisedCheck valid fld] done =
      if k = 0 ∧ r.a = 0 ∧ r.w = 0 then
        if 8 < r.b.toNat then s.raise (illegalRequest .range)
        else if valid = true then done else s.raise (notInitialised fld)
      else s.raise (illegalRequest .reserved) := by
  have hfields : (k != 0 || r.a != 0 || r.w != 0) = false ↔ k = 0 ∧ r.a = 0 ∧ r.w = 0 := by simp [and_assoc]
  rw [State.answer_reservedCheck hfields, State.answer_rangeCheck, State.answer_initialisedCheck]

/-- The checks of a read, for either width (R104, R117). -/
theorem State.answer_readChecks (s : State) (k : Byte) (r : Operands) (valid : Bool) (fld : Field) (done : State) :
    s.answer [reservedCheck (k != 0 || r.a != 0 || r.b != 0 || r.w != 0 || r.p != 0), initialisedCheck valid fld] done =
      if k = 0 ∧ r.a = 0 ∧ r.b = 0 ∧ r.w = 0 ∧ r.p = 0 then
        if valid = true then done else s.raise (notInitialised fld)
      else s.raise (illegalRequest .reserved) := by
  have hfields : (k != 0 || r.a != 0 || r.b != 0 || r.w != 0 || r.p != 0) = false ↔
      k = 0 ∧ r.a = 0 ∧ r.b = 0 ∧ r.w = 0 ∧ r.p = 0 := by simp [and_assoc]
  rw [State.answer_reservedCheck hfields, State.answer_initialisedCheck]

/-! ### What each CRC operation does -/

/-- R102: the seed is `W[15:0]`, and its high half is a reserved field. -/
theorem exec_crc16Init (k : Byte) (r : Operands) (s : State) :
    exec (.crc16Init k r) s = .next
      (if k = 0 ∧ r.a = 0 ∧ r.b = 0 ∧ r.w.toNat < 0x10000 ∧ r.p = 0 then
        (s.initAcc16 (r.w.setWidth 16)).respond okDone
      else s.raise (illegalRequest .reserved)) := by
  have hfields : (k != 0 || r.a != 0 || r.b != 0 || highHalf r.w != 0 || r.p != 0) = false ↔
      k = 0 ∧ r.a = 0 ∧ r.b = 0 ∧ r.w.toNat < 0x10000 ∧ r.p = 0 := by
    simp [and_assoc, ← highHalf_eq_zero_iff]
  rw [← lowHalf_eq_setWidth]
  exact congrArg Host.Outcome.next (State.answer_reservedCheck hfields s [] _)

/-- R103: reserved fields, count and valid bit, then the counted bytes. -/
theorem exec_crc16Feed (k : Byte) (r : Operands) (s : State) :
    exec (.crc16Feed k r) s = .next
      (if k = 0 ∧ r.a = 0 ∧ r.w = 0 then
        if 8 < r.b.toNat then s.raise (illegalRequest .range)
        else if s.v16 = true then (s.setAcc16 (crc16Run s.acc16 (countedBytes r))).respond okDone
        else s.raise (notInitialised .crc16)
      else s.raise (illegalRequest .reserved)) :=
  congrArg Host.Outcome.next (s.answer_feedChecks k r s.v16 .crc16 _)

/-- R104: the accumulator as it is held. -/
theorem exec_crc16Read (k : Byte) (r : Operands) (s : State) :
    exec (.crc16Read k r) s = .next
      (if k = 0 ∧ r.a = 0 ∧ r.b = 0 ∧ r.w = 0 ∧ r.p = 0 then
        if s.v16 = true then s.respond (okResponse (zext32 s.acc16) 0) else s.raise (notInitialised .crc16)
      else s.raise (illegalRequest .reserved)) :=
  congrArg Host.Outcome.next (s.answer_readChecks k r s.v16 .crc16 _)

/-- R115: the register holds the complement of the seed. -/
theorem exec_crc32Init (k : Byte) (r : Operands) (s : State) :
    exec (.crc32Init k r) s = .next
      (if k = 0 ∧ r.a = 0 ∧ r.b = 0 ∧ r.p = 0 then (s.initAcc32 (~~~ r.w)).respond okDone
      else s.raise (illegalRequest .reserved)) := by
  have hfields : (k != 0 || r.a != 0 || r.b != 0 || r.p != 0) = false ↔ k = 0 ∧ r.a = 0 ∧ r.b = 0 ∧ r.p = 0 := by
    simp [and_assoc]
  exact congrArg Host.Outcome.next (State.answer_reservedCheck hfields s [] _)

/-- R116: the checks of R103 on the other width. -/
theorem exec_crc32Feed (k : Byte) (r : Operands) (s : State) :
    exec (.crc32Feed k r) s = .next
      (if k = 0 ∧ r.a = 0 ∧ r.w = 0 then
        if 8 < r.b.toNat then s.raise (illegalRequest .range)
        else if s.v32 = true then (s.setAcc32 (crc32Run s.acc32 (countedBytes r))).respond okDone
        else s.raise (notInitialised .crc32)
      else s.raise (illegalRequest .reserved)) :=
  congrArg Host.Outcome.next (s.answer_feedChecks k r s.v32 .crc32 _)

/-- R117: the complement of the register, which stays. -/
theorem exec_crc32Read (k : Byte) (r : Operands) (s : State) :
    exec (.crc32Read k r) s = .next
      (if k = 0 ∧ r.a = 0 ∧ r.b = 0 ∧ r.w = 0 ∧ r.p = 0 then
        if s.v32 = true then s.respond (okResponse (~~~ s.acc32) 0) else s.raise (notInitialised .crc32)
      else s.raise (illegalRequest .reserved)) :=
  congrArg Host.Outcome.next (s.answer_readChecks k r s.v32 .crc32 _)

/-! ### CRC16 -/

/-- Settles O2: the reserved fields are the only check, and the seed is the low half of `W`. -/
theorem crc16InitLoadsTheSeed : Obligations.Crc16InitLoadsTheSeed := by
  intro k r s
  rw [exec_crc16Init]
  refine ⟨fun hzero => ?loaded, fun hnonzero => ?reserved⟩
  case loaded => rw [if_pos hzero]; rfl
  case reserved => rw [if_neg hnonzero]; rfl

/-- Settles O3: the checks of a feed in order, and the counted bytes behind them. -/
theorem crc16FeedRunsTheCountedBytes : Obligations.Crc16FeedRunsTheCountedBytes := by
  intro k r s
  rw [exec_crc16Feed]
  refine ⟨fun hzero hcount hvalid => ?fed, fun hnonzero => ?reserved, fun hzero hcount => ?range,
    fun hzero hcount hclear => ?uninitialised⟩
  case fed => rw [if_pos hzero, if_neg hcount.not_gt, if_pos hvalid, countedBytes_eq r hcount]; rfl
  case reserved => rw [if_neg hnonzero]; rfl
  case range => rw [if_pos hzero, if_pos hcount]; rfl
  case uninitialised => rw [if_pos hzero, if_neg hcount.not_gt, if_neg (ne_true_of_eq_false hclear)]; rfl

/-- Settles O4: the checks of a read in order, and the accumulator in the low half of `V`. -/
theorem crc16ReadReturnsTheAccumulator : Obligations.Crc16ReadReturnsTheAccumulator := by
  intro k r s
  rw [exec_crc16Read]
  refine ⟨fun hzero hvalid => ?value, fun hnonzero => ?reserved, fun hzero hclear => ?uninitialised⟩
  case value => rw [if_pos hzero, if_pos hvalid, zext32_half]; rfl
  case reserved => rw [if_neg hnonzero]; rfl
  case uninitialised => rw [if_pos hzero, if_neg (ne_true_of_eq_false hclear)]; rfl

/-! ### CRC32 -/

/-- Settles O5: the reserved fields are the only check, and any `W` is a seed. -/
theorem crc32InitStoresTheComplementedSeed : Obligations.Crc32InitStoresTheComplementedSeed := by
  intro k r s
  rw [exec_crc32Init]
  refine ⟨fun hzero => ?stored, fun hnonzero => ?reserved⟩
  case stored => rw [if_pos hzero]; rfl
  case reserved => rw [if_neg hnonzero]; rfl

/-- Settles O6: the checks of a feed in order, and the counted bytes behind them. -/
theorem crc32FeedRunsTheCountedBytes : Obligations.Crc32FeedRunsTheCountedBytes := by
  intro k r s
  rw [exec_crc32Feed]
  refine ⟨fun hzero hcount hvalid => ?fed, fun hnonzero => ?reserved, fun hzero hcount => ?range,
    fun hzero hcount hclear => ?uninitialised⟩
  case fed => rw [if_pos hzero, if_neg hcount.not_gt, if_pos hvalid, countedBytes_eq r hcount]; rfl
  case reserved => rw [if_neg hnonzero]; rfl
  case range => rw [if_pos hzero, if_pos hcount]; rfl
  case uninitialised => rw [if_pos hzero, if_neg hcount.not_gt, if_neg (ne_true_of_eq_false hclear)]; rfl

/-- Settles O7: the checks of a read in order; the complement goes to `V`, and the register is not written. -/
theorem crc32ReadReturnsTheComplement : Obligations.Crc32ReadReturnsTheComplement := by
  intro k r s
  rw [exec_crc32Read]
  refine ⟨fun hzero hvalid => ?value, fun hnonzero => ?reserved, fun hzero hclear => ?uninitialised⟩
  case value => rw [if_pos hzero, if_pos hvalid]; rfl
  case reserved => rw [if_neg hnonzero]; rfl
  case uninitialised => rw [if_pos hzero, if_neg (ne_true_of_eq_false hclear)]; rfl

/-! ### No bytes -/

@[simp] theorem crc16_nil (seed : BitVec 16) : crc16 [] seed = seed := crc16Run_nil seed

/-- The complement on exit undoes the one on entry. -/
@[simp] theorem crc32_nil (seed : BitVec 32) : crc32 [] seed = seed := by
  rw [crc32, crc32Run_nil, BitVec.not_not]

/-- Settles O51: no byte step runs, for any seed, so for the two named ones too. -/
theorem zeroLengthReturnsTheSeed : Obligations.ZeroLengthReturnsTheSeed :=
  ⟨crc16_nil, crc16_nil _, crc32_nil, crc32_nil _⟩

end Sys2Proof.Machine

/-! PROOFS. The statements about the plain operations of the frame codec (41_frame_codec.md R131 to R133). -/

namespace Sys2Proof.Machine

/-! ### What each plain codec operation does -/

/-- R131: every field but `OP` is reserved. -/
theorem exec_nop (k : Byte) (r : Operands) (s : State) :
    exec (.nop k r) s = .next
      (if k = 0 ∧ r.a = 0 ∧ r.b = 0 ∧ r.w = 0 ∧ r.p = 0 then s.respond okDone
      else s.raise (illegalRequest .reserved)) := by
  have hfields : (k != 0 || r.a != 0 || r.b != 0 || r.w != 0 || r.p != 0) = false ↔
      k = 0 ∧ r.a = 0 ∧ r.b = 0 ∧ r.w = 0 ∧ r.p = 0 := by simp [and_assoc]
  exact congrArg Host.Outcome.next (State.answer_reservedCheck hfields s [] _)

/-- R132: reserved fields, then the count, then the template frame on `Cfg.CMD_ID`. -/
theorem exec_frameCmd (k : Byte) (r : Operands) (s : State) :
    exec (.frameCmd k r) s = .next
      (if k = 0 ∧ r.w = 0 then
        if 8 < r.b.toNat then s.raise (illegalRequest .range)
        else s.respond (okResponse (zext32 s.cfg.raw.cmdId) (templateFrame r.a r.b.toNat r.p))
      else s.raise (illegalRequest .reserved)) := by
  have hfields : (k != 0 || r.w != 0) = false ↔ k = 0 ∧ r.w = 0 := by simp
  have hanswer : exec (.frameCmd k r) s = .next (s.answer [reservedCheck (k != 0 || r.w != 0), rangeCheck r.b]
      (s.respond (okResponse (zext32 s.cfg.raw.cmdId) (templateFrame r.a r.b.toNat r.p)))) := rfl
  rw [hanswer, State.answer_reservedCheck hfields, State.answer_rangeCheck, State.answer_nil]

/-- R133: the eight payload bytes themselves on `Cfg.DAT_ID`. -/
theorem exec_frameData (k : Byte) (r : Operands) (s : State) :
    exec (.frameData k r) s = .next
      (if k = 0 ∧ r.a = 0 ∧ r.b = 0 ∧ r.w = 0 then s.respond (okResponse (zext32 s.cfg.raw.datId) r.p)
      else s.raise (illegalRequest .reserved)) := by
  have hfields : (k != 0 || r.a != 0 || r.b != 0 || r.w != 0) = false ↔ k = 0 ∧ r.a = 0 ∧ r.b = 0 ∧ r.w = 0 := by
    simp [and_assoc]
  exact congrArg Host.Outcome.next (State.answer_reservedCheck hfields s [] _)

/-! ### The template frame -/

/-- Byte 1 is the address, also where the template does not reach it. -/
theorem byteAt_templateFrame_one (addr : Byte) (n : Nat) (t : Payload) : byteAt (templateFrame addr n t) 1 = addr := by
  rw [byteAt_templateFrame addr n t (by decide), if_pos rfl]

/-- Every other byte is the template's below the count and 0x00 from there on. -/
theorem byteAt_templateFrame_ne_one (addr : Byte) (n : Nat) (t : Payload) {i : Nat} (hi : i < 8) (hne : i ≠ 1) :
    byteAt (templateFrame addr n t) i = if i < n then byteAt t i else 0x00 := by
  rw [byteAt_templateFrame addr n t hi, if_neg hne]

/-! ### The three statements -/

/-- Settles O1: the reserved fields are the only check, and the answer holds no value. -/
theorem nopDoesNothing : Obligations.NopDoesNothing := by
  intro k r s
  rw [exec_nop]
  refine ⟨fun hzero => ?answered, fun hnonzero => ?reserved⟩
  case answered => rw [if_pos hzero]; rfl
  case reserved => rw [if_neg hnonzero]; rfl

/-- Settles O8: the checks in order, and behind them the template frame, known byte by byte. -/
theorem frameCmdPadsTheTemplate : Obligations.FrameCmdPadsTheTemplate := by
  intro k r s
  rw [exec_frameCmd]
  refine ⟨fun hzero hcount => ⟨templateFrame r.a r.b.toNat r.p, ?framed, byteAt_templateFrame_one _ _ _,
    fun i hi hne => byteAt_templateFrame_ne_one _ _ _ hi hne⟩, fun hnonzero => ?reserved, fun hzero hcount => ?range⟩
  case framed => rw [if_pos hzero, if_neg hcount.not_gt, zext32_canId]; rfl
  case reserved => rw [if_neg hnonzero]; rfl
  case range => rw [if_pos hzero, if_pos hcount]; rfl

/-- Settles O9: the reserved fields are the only check, and the payload goes out as it came. -/
theorem frameDataCopiesTheBytes : Obligations.FrameDataCopiesTheBytes := by
  intro k r s
  rw [exec_frameData]
  refine ⟨fun hzero => ?copied, fun hnonzero => ?reserved⟩
  case copied => rw [if_pos hzero, zext32_canId]; rfl
  case reserved => rw [if_neg hnonzero]; rfl

end Sys2Proof.Machine

/-! PROOFS. The statements about the commands of 42_dfu_commands.md: illegal selectors (R182, R184), the frames of `ENC`
(R152 to R185), and the responses that `DEC` validates (R151, R154 to R186). -/

namespace Sys2Proof

/-! ### Illegal selectors -/

/-- The table of selectors ends at 0x10 (R68). -/
theorem Cmd.ofSelector_eq_none {k : Byte} (h : 0x10 < k.toNat) : Cmd.ofSelector k = none :=
  List.getElem?_eq_none h

/-- A selector without a row is illegal, whatever the operands are (R68, R175, R182, R184). -/
theorem decodeFields_illegalSelector {op k : Byte}
    (h : (op = 0x0A ∧ (k = 0x0B ∨ 0x10 < k.toNat)) ∨ (op = 0x0B ∧ (k = 0x0E ∨ k = 0x0F ∨ 0x10 < k.toNat)))
    (r : Operands) : decodeFields op k r = .error .illegalK := by
  obtain ⟨rfl, rfl | hk⟩ | ⟨rfl, rfl | rfl | hk⟩ := h
  · rfl
  · simp [decodeFields, Cmd.ofSelector_eq_none hk]
  · rfl
  · rfl
  · simp [decodeFields, Cmd.ofSelector_eq_none hk]

end Sys2Proof

namespace Sys2Proof.Machine

/-- Settles O24: the decoder rejects the word by its first two bytes, and the step answers the rejection. -/
theorem illegalSelectorIsAnswered : Obligations.IllegalSelectorIsAnswered := by
  intro s op k others rest hsel hlen hport
  obtain ⟨r, hdecode⟩ := decode_eq_decodeFields op k hlen
  exact step_decode_error hport (congrArg (· + 2) hlen) (hdecode.trans (decodeFields_illegalSelector hsel r))

/-! ### Two forms of check -/

/-- A check that two values agree. -/
theorem firstFailing_bne {α : Type} [DecidableEq α] (x y : α) (e : Response) (cs : List Check) :
    firstFailing ((x != y, e) :: cs) = if x = y then firstFailing cs else some e := by
  by_cases h : x = y <;> simp [h]

/-- The reserved fields of an `ENC` command: `P`, and with it what the command itself reserves (R143, R152). -/
theorem encCommand_reserved {nonzero : Bool} {r : Operands} {allZero : Prop} [Decidable allZero]
    (h : nonzero = false ∧ r.p = 0 ↔ allZero) (c : Cmd) (cs : List Check) (d : List Byte) (s : State) :
    encCommand c (reservedCheck nonzero :: cs) d r s =
      if allZero then
        s.answer cs (s.respond (okResponse (zext32 s.cfg.raw.cmdId) (commandFrame r.a (s.cfg.raw.opcOf c) d)))
      else s.raise (illegalRequest .reserved) := by
  rw [encCommand, State.answer_reservedCheck bne_eq_false_iff_eq, State.answer_reservedCheck Iff.rfl,
    ← ite_and]
  exact if_congr (and_comm.trans h) rfl rfl

/-! ### What each ENC command does -/

/-- R152: `A` alone is read. -/
theorem exec_encNoArgumentRow {row : (Operands → Instr) × Cmd} (hrow : row ∈ encNoArgumentRows) (r : Operands)
    (s : State) :
    exec (row.1 r) s = .next
      (if r.b = 0 ∧ r.w = 0 ∧ r.p = 0 then
        s.respond (okResponse (zext32 s.cfg.raw.cmdId) (commandFrame r.a (s.cfg.raw.opcOf row.2) []))
      else s.raise (illegalRequest .reserved)) := by
  have hfields : (r.b != 0 || r.w != 0) = false ∧ r.p = 0 ↔ r.b = 0 ∧ r.w = 0 ∧ r.p = 0 := by simp [and_assoc]
  have hexec : exec (row.1 r) s = .next (encCommand row.2 [noArgument r] [] r s) := by
    simp only [encNoArgumentRows, List.mem_cons, List.not_mem_nil, or_false] at hrow
    obtain rfl | rfl | rfl | rfl | rfl | rfl | rfl | rfl | rfl | rfl := hrow <;> rfl
  rw [hexec, noArgument, encCommand_reserved hfields, State.answer_nil]

/-- The `ENC` commands whose argument is all of `W` and that check nothing about it (R169, R173). -/
def encWordRows : List ((Operands → Instr) × Cmd) := [(.encSetAppLen, .setAppLen), (.encSetPktAddr, .setPktAddr)]

/-- The `ENC` commands whose argument is `W[15:0]` (R171, R177). -/
def encHalfRows : List ((Operands → Instr) × Cmd) := [(.encSetPktSeq, .setPktSeq), (.encVerifyPkt, .verifyPkt)]

/-- R169, R173: any `W` is an argument. -/
theorem exec_encWordRow {row : (Operands → Instr) × Cmd} (hrow : row ∈ encWordRows) (r : Operands) (s : State) :
    exec (row.1 r) s = .next
      (if r.b = 0 ∧ r.p = 0 then
        s.respond (okResponse (zext32 s.cfg.raw.cmdId) (commandFrame r.a (s.cfg.raw.opcOf row.2) (leBytes4 r.w)))
      else s.raise (illegalRequest .reserved)) := by
  have hfields : (r.b != 0) = false ∧ r.p = 0 ↔ r.b = 0 ∧ r.p = 0 := by simp
  have hexec : exec (row.1 r) s = .next (encCommand row.2 [wordArgument r] (leBytes4 r.w) r s) := by
    simp only [encWordRows, List.mem_cons, List.not_mem_nil, or_false] at hrow
    obtain rfl | rfl := hrow <;> rfl
  rw [hexec, wordArgument, encCommand_reserved hfields, State.answer_nil]

/-- R171, R177: the high half of `W` is a reserved field. -/
theorem exec_encHalfRow {row : (Operands → Instr) × Cmd} (hrow : row ∈ encHalfRows) (r : Operands) (s : State) :
    exec (row.1 r) s = .next
      (if r.b = 0 ∧ r.p = 0 ∧ r.w.toNat < 0x10000 then
        s.respond (okResponse (zext32 s.cfg.raw.cmdId)
          (commandFrame r.a (s.cfg.raw.opcOf row.2) (leBytes2 (lowHalf r.w))))
      else s.raise (illegalRequest .reserved)) := by
  have hfields : (r.b != 0 || highHalf r.w != 0) = false ∧ r.p = 0 ↔ r.b = 0 ∧ r.p = 0 ∧ r.w.toNat < 0x10000 := by
    rw [Bool.or_eq_false_iff, bne_eq_false_iff_eq, bne_eq_false_iff_eq, highHalf_eq_zero_iff, and_assoc,
      and_comm (b := r.p = 0)]
  have hexec : exec (row.1 r) s = .next (encCommand row.2 [halfArgument r] (leBytes2 (lowHalf r.w)) r s) := by
    simp only [encHalfRows, List.mem_cons, List.not_mem_nil, or_false] at hrow
    obtain rfl | rfl := hrow <;> rfl
  rw [hexec, halfArgument, encCommand_reserved hfields, State.answer_nil]

/-- `PACKET_LENS` by their numbers: no bit of `W` is left out of the comparison (R167). -/
theorem mem_packetLens_iff (w : Word32) : w ∈ packetLens ↔ w.toNat ∈ [8, 16, 32, 64, 128, 256, 512] := by
  simp [packetLens, ← BitVec.toNat_inj]

/-- R167: reserved fields, then the set of legal lengths. -/
theorem exec_encSetPktLen (r : Operands) (s : State) :
    exec (.encSetPktLen r) s = .next
      (if r.b = 0 ∧ r.p = 0 then
        if r.w.toNat ∈ [8, 16, 32, 64, 128, 256, 512] then
          s.respond (okResponse (zext32 s.cfg.raw.cmdId)
            (commandFrame r.a (s.cfg.raw.opcOf .setPktLen) (leBytes2 (lowHalf r.w))))
        else s.raise (unsupportedParameter .packetLen r.w)
      else s.raise (illegalRequest .reserved)) := by
  have hfields : (r.b != 0) = false ∧ r.p = 0 ↔ r.b = 0 ∧ r.p = 0 := by simp
  rw [exec, execEncSetPktLen, wordArgument, encCommand_reserved hfields, State.answer_cons, State.answer_nil]
  by_cases hlen : r.w ∈ packetLens
  · rw [if_pos ((mem_packetLens_iff r.w).mp hlen)]; simp [hlen]
  · rw [if_neg (mt (mem_packetLens_iff r.w).mpr hlen)]; simp [hlen]

/-- R179: `P`, then the CRC type, then for type 0 the high half of `W`. -/
theorem exec_encVerifyAll (r : Operands) (s : State) :
    exec (.encVerifyAll r) s = .next
      (if r.p = 0 then
        if r.b = 0 then
          if r.w.toNat < 0x10000 then
            s.respond (okResponse (zext32 s.cfg.raw.cmdId)
              (commandFrame r.a (s.cfg.raw.opcOf .verifyAll) (0x00 :: leBytes2 (lowHalf r.w))))
          else s.raise (illegalRequest .reserved)
        else if r.b = 1 then
          s.respond (okResponse (zext32 s.cfg.raw.cmdId)
            (commandFrame r.a (s.cfg.raw.opcOf .verifyAll) (0x01 :: leBytes4 r.w)))
        else s.raise (unsupportedParameter .crcType (zext32 r.b))
      else s.raise (illegalRequest .reserved)) := by
  rw [exec, execEncVerifyAll, encCommand, State.answer_reservedCheck bne_eq_false_iff_eq, State.answer_cons]
  by_cases h0 : r.b = 0
  · have hhigh : (r.b == 0 && highHalf r.w != 0) = false ↔ r.w.toNat < 0x10000 := by
      simp [h0, ← highHalf_eq_zero_iff]
    rw [State.answer_reservedCheck hhigh, if_pos h0, if_pos h0, h0]; rfl
  · have hlow : (r.b == 0 && highHalf r.w != 0) = false := by rw [beq_eq_false_iff_ne.mpr h0, Bool.false_and]
    rw [hlow, bne_iff_ne.mpr h0, Bool.true_and, if_neg h0, if_neg h0]
    by_cases h1 : r.b = 1
    · rw [bne_eq_false_iff_eq.mpr h1, if_pos h1]; rfl
    · rw [bne_iff_ne.mpr h1, if_neg h1]; rfl

/-! ### The ENC statements -/

/-- Settles O10: the reserved fields are the only check, and the frame holds no data byte. -/
theorem encWithoutArgumentBuildsTheFrame : Obligations.EncWithoutArgumentBuildsTheFrame := by
  intro row hrow r s
  rw [exec_encNoArgumentRow hrow]
  refine ⟨fun hzero => ?framed, fun hnonzero => ?reserved⟩
  case framed => rw [if_pos hzero, zext32_canId, commandFrame_nil]; rfl
  case reserved => rw [if_neg hnonzero]; rfl

/-- Settles O11: the reserved fields, then the set of legal lengths. -/
theorem encSetPktLenChecksTheLength : Obligations.EncSetPktLenChecksTheLength := by
  intro r s
  rw [exec_encSetPktLen]
  refine ⟨fun hzero hlen => ?framed, fun hnonzero => ?reserved, fun hzero hlen => ?unsupported⟩
  case framed => rw [if_pos hzero, if_pos hlen, zext32_canId, commandFrame_half]; rfl
  case reserved => rw [if_neg hnonzero]; rfl
  case unsupported => rw [if_pos hzero, if_neg hlen]; rfl

/-- Settles O12: the reserved fields are the only check, and `W` is the argument. -/
theorem encWordArgumentBuildsTheFrame : Obligations.EncWordArgumentBuildsTheFrame := by
  intro row hrow r s
  rw [exec_encWordRow hrow]
  refine ⟨fun hzero => ?framed, fun hnonzero => ?reserved⟩
  case framed => rw [if_pos hzero, zext32_canId, commandFrame_word]; rfl
  case reserved => rw [if_neg hnonzero]; rfl

/-- Settles O13: the reserved fields, the high half of `W` among them, are the only check. -/
theorem encHalfArgumentBuildsTheFrame : Obligations.EncHalfArgumentBuildsTheFrame := by
  intro row hrow r s
  rw [exec_encHalfRow hrow]
  refine ⟨fun hzero => ?framed, fun hnonzero => ?reserved⟩
  case framed => rw [if_pos hzero, zext32_canId, commandFrame_half]; rfl
  case reserved => rw [if_neg hnonzero]; rfl

/-- Settles O14: each clause is one path through the checks in their order. -/
theorem encVerifyAllBuildsTheFrame : Obligations.EncVerifyAllBuildsTheFrame := by
  intro r s
  rw [exec_encVerifyAll]
  refine ⟨fun hp h0 hw => ?crc16, fun hp h1 => ?crc32, fun hp htype => ?unsupported, fun hp => ?reservedP,
    fun hp h0 hw => ?reservedW⟩
  case crc16 => rw [if_pos hp, if_pos h0, if_pos hw, zext32_canId, commandFrame_verifyAll16]; rfl
  case crc32 =>
    have h0 : r.b ≠ 0 := by rw [h1]; decide
    rw [if_pos hp, if_neg h0, if_pos h1, zext32_canId, commandFrame_verifyAll32]; rfl
  case unsupported =>
    have h0 : r.b ≠ 0 := by rintro h; simp [h] at htype
    have h1 : r.b ≠ 1 := by rintro h; simp [h] at htype
    rw [if_pos hp, if_neg h0, if_neg h1, zext32_byte]; rfl
  case reservedP => rw [if_neg hp]; rfl
  case reservedW => rw [if_pos hp, if_pos h0, if_neg hw.not_gt]; rfl

end Sys2Proof.Machine

namespace Sys2Proof

/-! ### The response lengths that are fixed -/

/-- Four response lengths are the source's own and the same in every legal configuration (R27 item 4, R151). -/
theorem LegalCfg.fixedLengths (c : LegalCfg) :
    c.raw.rspLenOf .prepare = 5 ∧ c.raw.rspLenOf .getBlVer = 7 ∧ c.raw.rspLenOf .setPktLen = 3 ∧
      c.raw.rspLenOf .verifyAll = 3 := by
  obtain ⟨_, _, _, hfixed, _⟩ := c.raw.legal_iff.mp c.legal
  exact hfixed

end Sys2Proof

namespace Sys2Proof.Machine

/-! ### The values DEC extracts -/

/-- The value that stands at some bits of the payload, zero-extended: how `decRows` gives the extractions of R151. -/
def extractBits (start width : Nat) (p : Payload) : Word32 := (p.extractLsb' start width).setWidth 32

theorem extractNothing_eq : extractNothing = extractBits 0 0 :=
  funext fun p => by rw [extractBits, BitVec.of_length_zero (x := p.extractLsb' 0 0)]; rfl

theorem extractByte_eq (i : Nat) : extractByte i = extractBits (8 * i) 8 := rfl

theorem extractHalf_eq (i : Nat) : extractHalf i = extractBits (8 * i) 16 :=
  funext fun p => congrArg zext32 (le16_byteAt p i)

theorem extractWord_eq (i : Nat) : extractWord i = extractBits (8 * i) 32 :=
  funext fun p => (le32_byteAt p i).trans (BitVec.setWidth_eq _).symm

/-- Every row of the response table is the validator with the row's command, check and value. -/
theorem exec_decRow {row : DecRow} (hrow : row ∈ decRows) (r : Operands) (s : State) :
    exec (row.make r) s = .next (decResponse row.cmd row.check (extractBits row.valueAt row.valueBits) r s) := by
  have hextract {c : RspCmd} {k : RspCheck} {ex ex' : Payload → Word32} (h : ex = ex') :
      (.next (decResponse c k ex r s) : Host.Outcome State Fault Refusal) = .next (decResponse c k ex' r s) := by rw [h]
  revert row
  simp only [decRows, List.forall_mem_cons]
  exact ⟨hextract extractNothing_eq, hextract (extractByte_eq 5), hextract extractNothing_eq,
    hextract extractNothing_eq, hextract extractNothing_eq, hextract (extractByte_eq 3),
    hextract (extractHalf_eq 3), hextract extractNothing_eq, hextract (extractWord_eq 3),
    hextract (extractHalf_eq 4), hextract extractNothing_eq, hextract extractNothing_eq,
    hextract extractNothing_eq, hextract extractNothing_eq, hextract (extractByte_eq 3),
    List.forall_mem_nil _⟩

/-! ### The command check -/

theorem firstFailing_ack (code : Byte) (p : Payload) :
    firstFailing ((RspCheck.ack code).checks p) =
      if byteAt p 3 = code then none else some (validationFailed .ack code (byteAt p 3)) :=
  firstFailing_bne _ _ _ _

theorem firstFailing_magic (p : Payload) :
    firstFailing (RspCheck.magic.checks p) =
      if byteAt p 3 = 0xCC then
        if byteAt p 4 = 0xFE then none else some (validationFailed .magic 0xFE (byteAt p 4))
      else some (validationFailed .magic 0xCC (byteAt p 3)) := by
  rw [RspCheck.checks, firstFailing_bne, firstFailing_bne, firstFailing_nil]

/-! ### The answers of a row, check by check (R135) -/

/-- The validator as the ladder of its checks; the command check and the acceptance are one response (R135). -/
theorem decResponse_eq (c : RspCmd) (k : RspCheck) (ex : Payload → Word32) (r : Operands) (s : State) :
    decResponse c k ex r s =
      if r.a = 0 ∧ r.b = 0 ∧ r.w.toNat < 0x800 then
        if r.w.setWidth 11 = s.cfg.raw.rspId then
          if byteAt r.p 0 = s.cfg.raw.rspLenOf c then
            if byteAt r.p 2 = expectedStatus s.cfg.raw c then
              s.respond ((firstFailing (k.checks r.p)).getD
                (okResponse (ex r.p) (dataBytes (s.cfg.raw.rspLenOf c) r.p)))
            else s.raise (validationFailed .status (expectedStatus s.cfg.raw c) (byteAt r.p 2))
          else s.raise (validationFailed .length (s.cfg.raw.rspLenOf c) (byteAt r.p 0))
        else s.raise idMismatchResponse
      else s.raise (illegalRequest .reserved) := by
  obtain ⟨hzero, h⟩ | ⟨hzero, ⟨hid, h⟩ | ⟨hid, ⟨hlen, h⟩ | ⟨hlen, ⟨hst, h⟩ | ⟨hst, h⟩⟩⟩⟩ :=
    decResponse_cases c k ex r s
  · rw [h, if_neg hzero]
  · rw [h, if_pos hzero, if_neg hid]
  · rw [h, if_pos hzero, if_pos hid, if_neg hlen]
  · rw [h, if_pos hzero, if_pos hid, if_pos hlen, if_neg hst]
  · rw [h, if_pos hzero, if_pos hid, if_pos hlen, if_pos hst, State.answer_respond]

section

variable {row : DecRow} {r : Operands} {s : State}

theorem exec_decRow_reserved (hrow : row ∈ decRows) (hnonzero : ¬ (r.a = 0 ∧ r.b = 0 ∧ r.w.toNat < 0x800)) :
    exec (row.make r) s = .next (s.raise (illegalRequest .reserved)) := by
  rw [exec_decRow hrow, decResponse_eq, if_neg hnonzero]

theorem exec_decRow_idMismatch (hrow : row ∈ decRows) (hzero : r.a = 0 ∧ r.b = 0 ∧ r.w.toNat < 0x800)
    (hid : r.w.setWidth 11 ≠ s.cfg.raw.rspId) : exec (row.make r) s = .next (s.raise idMismatchResponse) := by
  rw [exec_decRow hrow, decResponse_eq, if_pos hzero, if_neg hid]

theorem exec_decRow_length (hrow : row ∈ decRows) (hzero : r.a = 0 ∧ r.b = 0 ∧ r.w.toNat < 0x800)
    (hid : r.w.setWidth 11 = s.cfg.raw.rspId) (hlen : byteAt r.p 0 ≠ s.cfg.raw.rspLenOf row.cmd) :
    exec (row.make r) s = .next (s.raise (validationFailed .length (s.cfg.raw.rspLenOf row.cmd) (byteAt r.p 0))) := by
  rw [exec_decRow hrow, decResponse_eq, if_pos hzero, if_pos hid, if_neg hlen]

theorem exec_decRow_status (hrow : row ∈ decRows) (hzero : r.a = 0 ∧ r.b = 0 ∧ r.w.toNat < 0x800)
    (hid : r.w.setWidth 11 = s.cfg.raw.rspId) (hlen : byteAt r.p 0 = s.cfg.raw.rspLenOf row.cmd)
    (hstatus : byteAt r.p 2 ≠ expectedStatus s.cfg.raw row.cmd) :
    exec (row.make r) s =
      .next (s.raise (validationFailed .status (expectedStatus s.cfg.raw row.cmd) (byteAt r.p 2))) := by
  rw [exec_decRow hrow, decResponse_eq, if_pos hzero, if_pos hid, if_pos hlen, if_neg hstatus]

/-- Behind the status stands the command check, and behind that the extraction. -/
theorem exec_decRow_checked (hrow : row ∈ decRows) (hzero : r.a = 0 ∧ r.b = 0 ∧ r.w.toNat < 0x800)
    (hid : r.w.setWidth 11 = s.cfg.raw.rspId) (hlen : byteAt r.p 0 = s.cfg.raw.rspLenOf row.cmd)
    (hstatus : byteAt r.p 2 = expectedStatus s.cfg.raw row.cmd) :
    exec (row.make r) s =
      .next (s.respond ((firstFailing (row.check.checks r.p)).getD
        (okResponse (extractBits row.valueAt row.valueBits r.p) (dataBytes (byteAt r.p 0) r.p)))) := by
  rw [exec_decRow hrow, decResponse_eq, if_pos hzero, if_pos hid, if_pos hlen, if_pos hstatus, hlen]

end

/-! ### The DEC statements -/

/-- Settles O15: the four shared checks, and with no command check the extraction right behind them. -/
theorem decWithoutAckValidatesTheResponse : Obligations.DecWithoutAckValidatesTheResponse := by
  refine ⟨fun s => ?blVer, fun row hrow hcheck r s => ⟨exec_decRow_reserved hrow, fun hzero =>
    ⟨exec_decRow_idMismatch hrow hzero, fun hid =>
      ⟨exec_decRow_length hrow hzero hid, exec_decRow_status hrow hzero hid, fun hlen hstatus =>
        ⟨dataBytes (byteAt r.p 0) r.p, ?accepted, fun i hi => byteAt_dataBytes _ _ hi⟩⟩⟩⟩⟩
  case blVer =>
    obtain ⟨_, hlen, _⟩ := s.cfg.fixedLengths
    exact hlen
  case accepted => rw [exec_decRow_checked hrow hzero hid hlen hstatus, hcheck]; rfl

/-- Settles O16: the four shared checks, then the ack byte, then the extraction. -/
theorem decAckValidatesTheResponse : Obligations.DecAckValidatesTheResponse := by
  refine ⟨fun s => ?lengths, fun row hrow code hcheck r s => ⟨exec_decRow_reserved hrow, fun hzero =>
    ⟨exec_decRow_idMismatch hrow hzero, fun hid =>
      ⟨exec_decRow_length hrow hzero hid, exec_decRow_status hrow hzero hid, fun hlen hstatus hack => ?wrongAck,
        fun hlen hstatus hack =>
          ⟨dataBytes (byteAt r.p 0) r.p, ?accepted, fun i hi => byteAt_dataBytes _ _ hi⟩⟩⟩⟩⟩
  case lengths =>
    obtain ⟨_, _, hlens⟩ := s.cfg.fixedLengths
    exact hlens
  case wrongAck =>
    rw [exec_decRow_checked hrow hzero hid hlen hstatus, hcheck, firstFailing_ack, if_neg hack]; rfl
  case accepted =>
    rw [exec_decRow_checked hrow hzero hid hlen hstatus, hcheck, firstFailing_ack, if_pos hack]; rfl

/-- The row of PREPARE in the response table (R156). -/
def prepareRow : DecRow := ⟨.decPrepare, .prepare, .magic, 40, 8⟩

theorem prepareRow_mem : prepareRow ∈ decRows := List.mem_cons_of_mem _ List.mem_cons_self

/-- A response of length 5 has three data bytes, those at offsets 3 to 5 (R142). -/
theorem dataBytes_five (p : Payload) :
    dataBytes 5 p = (0 : BitVec 40) ++ byteAt p 5 ++ byteAt p 4 ++ byteAt p 3 := by
  have hzeros : (0x00 : Byte) ++ (0x00 : Byte) ++ (0x00 : Byte) ++ (0x00 : Byte) ++ (0x00 : Byte) = (0 : BitVec 40) := rfl
  rw [← hzeros]; rfl

/-- Settles O17: the four shared checks with the length 5, then the two magic bytes in order, then the extraction. -/
theorem decPrepareChecksTheMagic : Obligations.DecPrepareChecksTheMagic := by
  intro r s
  obtain ⟨hfive, _⟩ := s.cfg.fixedLengths
  have hchecked := exec_decRow_checked prepareRow_mem (r := r) (s := s)
  rw [show prepareRow.check = .magic from rfl, firstFailing_magic] at hchecked
  rw [← hfive]
  refine ⟨exec_decRow_reserved prepareRow_mem, fun hzero => ⟨exec_decRow_idMismatch prepareRow_mem hzero, fun hid =>
    ⟨exec_decRow_length prepareRow_mem hzero hid, exec_decRow_status prepareRow_mem hzero hid,
      fun hlen hstatus h3 => ?wrongFirst, fun hlen hstatus h3 h4 => ?wrongSecond,
      fun hlen hstatus h3 h4 => ?accepted⟩⟩⟩
  case wrongFirst =>
    exact (hchecked hzero hid hlen hstatus).trans (by rw [if_neg h3]; rfl)
  case wrongSecond =>
    exact (hchecked hzero hid hlen hstatus).trans (by rw [if_pos h3, if_neg h4]; rfl)
  case accepted =>
    refine (hchecked hzero hid hlen hstatus).trans ?_
    rw [if_pos h3, if_pos h4, hlen, hfive, dataBytes_five, h3, h4, ← zext32_byte]; rfl

end Sys2Proof.Machine

/-! PROOFS. The statement about the responses of 60_exceptions.md: a response other than `OK` writes no state (R209). -/

namespace Sys2Proof.Machine

/-! ### Operations that write no block state -/

/-- Only INIT and FEED write block state; every other operation emits a response and does nothing else. -/
theorem exec_onlyResponds {i : Instr} (hi : ¬ (i.op = 0x01 ∨ i.op = 0x02 ∨ i.op = 0x04 ∨ i.op = 0x05)) (s : State) :
    ∃ x, exec i s = .next (s.respond x) := by
  have hcodec := exec_codec (i := i)
  cases i with
  | crc16Init k r | crc16Feed k r | crc32Init k r | crc32Feed k r => simp [Instr.op] at hi
  | crc16Read k r | crc32Read k r => exact ⟨_, congrArg Host.Outcome.next (State.answer_respond _ _ _)⟩
  | _ =>
    obtain ⟨f, hf⟩ := hcodec (by simp [Instr.op])
    exact ⟨f s.cfg, hf s⟩

/-! ### Errors write no state -/

/-- R200, R209: the state `t` behind a request that found `s` holds a response, and where that is not `OK` nothing else is
new in `t`. -/
def State.AnsweredBy (s t : State) : Prop := ∃ x, t.rsp = some x ∧ (x.st ≠ .ok → t = s.respond x)

theorem State.answeredBy_respond (s : State) (x : Response) : s.AnsweredBy (s.respond x) :=
  ⟨x, State.respond_rsp s x, fun _ => rfl⟩

/-- A write behind checks: the first that fails is raised and nothing is written, or all pass and the answer is `OK`. -/
theorem State.answeredBy_answer_okDone (s done : State) (cs : List Check) :
    s.AnsweredBy (s.answer cs (done.respond okDone)) := by
  obtain ⟨x, _, hraised⟩ | ⟨_, hdone⟩ := s.answer_cases cs (done.respond okDone)
  · rw [hraised]
    exact s.answeredBy_respond x
  · rw [hdone]
    exact ⟨okDone, State.respond_rsp done okDone, fun hst => absurd okDone_st hst⟩

/-- R209 for every instruction. -/
theorem exec_answeredBy {i : Instr} {s t : State} (h : exec i s = .next t) : s.AnsweredBy t := by
  by_cases hi : i.op = 0x01 ∨ i.op = 0x02 ∨ i.op = 0x04 ∨ i.op = 0x05
  case pos =>
    cases i with
    | crc16Init k r | crc16Feed k r | crc32Init k r | crc32Feed k r =>
      cases h
      exact s.answeredBy_answer_okDone _ _
    | _ => simp [Instr.op] at hi
  case neg =>
    obtain ⟨x, hx⟩ := exec_onlyResponds hi s
    obtain rfl := Host.Outcome.next.inj (h.symm.trans hx)
    exact s.answeredBy_respond x

/-- A whole request that names an instruction is taken from the port and performed. -/
theorem step_decode_ok {s : State} {bs : List Byte} {rest : List PortEvent} {i : Instr}
    (hport : s.port = byteEvents bs ++ rest) (hlen : bs.length = 16) (hdecode : decode bs = .ok i) :
    step s = exec i { s with port := rest } := by
  simp only [step, hport, takeRequest_request bs rest hlen, hdecode]

/-- R209 for every whole request, whether or not it names an instruction. -/
theorem step_answeredBy {s t : State} {bs : List Byte} {rest : List PortEvent}
    (hport : s.port = byteEvents bs ++ rest) (hlen : bs.length = 16) (h : step s = .next t) :
    State.AnsweredBy { s with port := rest } t := by
  cases hdecode : decode bs with
  | ok i => exact exec_answeredBy ((step_decode_ok hport hlen hdecode).symm.trans h)
  | error e =>
    obtain rfl := Host.Outcome.next.inj (h.symm.trans (step_decode_error hport hlen hdecode))
    exact State.answeredBy_respond _ (decodeErrorResponse e)

/-- Settles O28: the request is taken from the port, and a response other than `OK` is all that its operation writes. -/
theorem errorsWriteNoState : Obligations.ErrorsWriteNoState :=
  fun _ _ _ _ hlen hport h => step_answeredBy hport hlen h

end Sys2Proof.Machine

/-! PROOFS. The statements about reset of 70_reset_and_hazards.md: what it clears and what request it discards (R230), and
that the configuration outlives it (R231), as it does every other step (R26). -/

namespace Sys2Proof.Machine

/-! ### The configuration -/

/-- Running checks keeps the configuration when the outcome of passing them does: a raised error only responds. -/
theorem State.answer_cfg {s done : State} (cs : List Check) (h : done.cfg = s.cfg) : (s.answer cs done).cfg = s.cfg := by
  obtain ⟨x, _, hraised⟩ | ⟨_, hdone⟩ := s.answer_cases cs done
  · rw [hraised, State.raise_cfg]
  · rw [hdone, h]

/-- R26 for every instruction: INIT and FEED write an accumulator, the others only respond. -/
theorem exec_cfg {i : Instr} {s t : State} (h : exec i s = .next t) : t.cfg = s.cfg := by
  by_cases hi : i.op = 0x01 ∨ i.op = 0x02 ∨ i.op = 0x04 ∨ i.op = 0x05
  case pos =>
    cases i with
    | crc16Init k r | crc16Feed k r | crc32Init k r | crc32Feed k r =>
      cases h
      exact State.answer_cfg _ rfl
    | _ => simp [Instr.op] at hi
  case neg =>
    obtain ⟨x, hx⟩ := exec_onlyResponds hi s
    obtain rfl := Host.Outcome.next.inj (h.symm.trans hx)
    exact s.respond_cfg x

/-- Settles O38, by what a step can do: wait, take a reset, perform an instruction, or answer a word that names none. -/
theorem stepKeepsTheConfiguration : Obligations.StepKeepsTheConfiguration := by
  intro s t h
  obtain ⟨_, hs⟩ | ⟨rest, _, hs⟩ | ⟨_, rest, i, _, _, hs⟩ | ⟨_, rest, e, _, _, hs⟩ := step_cases s
  case inl =>
    obtain rfl := Host.Outcome.next.inj (h.symm.trans hs)
    rfl
  case inr.inl =>
    obtain rfl := Host.Outcome.next.inj (h.symm.trans hs)
    exact s.afterReset_cfg rest
  case inr.inr.inl => exact exec_cfg (s := { s with port := rest }) (hs.symm.trans h)
  case inr.inr.inr =>
    obtain rfl := Host.Outcome.next.inj (h.symm.trans hs)
    exact State.raise_cfg _ _

/-! ### Reset -/

/-- A reset that comes before the sixteenth byte of a request is the step, whatever the bytes before it are (R230). -/
theorem step_reset {s : State} {bs : List Byte} {rest : List PortEvent}
    (hport : s.port = byteEvents bs ++ .reset :: rest) (hlen : bs.length < 16) : step s = .next (s.afterReset rest) := by
  simp only [step, hport, takeRequest, takeBytes_reset 16 [] bs rest hlen]

/-- Settles O39: the state after the reset is `afterReset`, which reads neither the port nor what had arrived on it. -/
theorem resetDiscardsAndClears : Obligations.ResetDiscardsAndClears := by
  refine ⟨fun s rest => ⟨s.afterReset rest, fun bs hlen => ?step, ?cleared⟩, ?powerUp⟩
  case step => exact step_reset (s := { s with port := byteEvents bs ++ .reset :: rest }) rfl hlen
  case cleared =>
    exact ⟨s.afterReset_v16 rest, s.afterReset_v32 rest, s.afterReset_cfg rest, s.afterReset_port rest,
      .inl (s.afterReset_rsp rest)⟩
  case powerUp => exact ⟨State.powerUp_v16 Config.cfg, State.powerUp_v32 Config.cfg⟩

end Sys2Proof.Machine

/-! PROOFS. The statements about a request and its word (30_encoding.md R60 to R63, R68): decoding and encoding are inverse to
each other, what `OP` and `K` pick, and when a step takes a request from the port (20_memory.md R43). -/

namespace Sys2Proof

open Sys2Proof.Machine

/-! ### A word and its bytes -/

/-- A 32-bit number is the one its bytes make, least significant first (R44). -/
theorem le32_extractLsb' (w : Word32) :
    le32 (w.extractLsb' 0 8) (w.extractLsb' 8 8) (w.extractLsb' 16 8) (w.extractLsb' 24 8) = w := by
  have hpayload := le32_byteAt (w.setWidth 64) 0
  simpa [byteAt, BitVec.extractLsb'_setWidth_of_le] using hpayload

/-- The bytes of the 32-bit number that four bytes make are those four (R44). -/
theorem leBytes4_le32 (b0 b1 b2 b3 : Byte) : leBytes4 (le32 b0 b1 b2 b3) = [b0, b1, b2, b3] := by
  have hbyte (i : Nat) (hi : i < 4) : (le32 b0 b1 b2 b3).extractLsb' (8 * i) 8 = [b0, b1, b2, b3].getD i 0 := by
    rw [← byteAt_paddedFrame _ (by omega : i < 8)]
    have hlow : le32 b0 b1 b2 b3 = (paddedFrame [b0, b1, b2, b3]).extractLsb' 0 32 := by
      simpa [byteAt_paddedFrame] using le32_byteAt (paddedFrame [b0, b1, b2, b3]) 0
    rw [hlow, BitVec.extractLsb'_extractLsb'_of_le (by omega), byteAt]
  exact congrArg₂ _ (hbyte 0 (by decide)) (congrArg₂ _ (hbyte 1 (by decide))
    (congrArg₂ _ (hbyte 2 (by decide)) (congrArg (· :: []) (hbyte 3 (by decide)))))

/-- The decoder reads from a request word's bytes the fields the word was made of (R43, R61). -/
theorem decode_bytesOfWord_requestWord (op k : Byte) (r : Operands) :
    decode (bytesOfWord (requestWord op k r)) = decodeFields op k r := by
  rw [bytesOfWord_requestWord]
  calc _ = decodeFields op k ⟨r.a, r.b,
        le32 (r.w.extractLsb' 0 8) (r.w.extractLsb' 8 8) (r.w.extractLsb' 16 8) (r.w.extractLsb' 24 8),
        packBytes (byteAt r.p)⟩ := rfl
    _ = decodeFields op k r := by rw [le32_extractLsb', packBytes_byteAt]

/-- The word made of the fields that the decoder reads from 16 bytes has those bytes (R43, R61). -/
theorem bytesOfWord_requestWord_of_bytes (op k a b w0 w1 w2 w3 p0 p1 p2 p3 p4 p5 p6 p7 : Byte) :
    bytesOfWord (requestWord op k
      ⟨a, b, w3 ++ w2 ++ w1 ++ w0, p7 ++ p6 ++ p5 ++ p4 ++ p3 ++ p2 ++ p1 ++ p0⟩) =
      [op, k, a, b, w0, w1, w2, w3, p0, p1, p2, p3, p4, p5, p6, p7] := by
  have hp : payloadBytes (paddedFrame [p0, p1, p2, p3, p4, p5, p6, p7]) = [p0, p1, p2, p3, p4, p5, p6, p7] :=
    payloadBytes_packBytes _
  rw [bytesOfWord_requestWord]
  calc _ = op :: k :: a :: b :: (leBytes4 (le32 w0 w1 w2 w3) ++
        payloadBytes (paddedFrame [p0, p1, p2, p3, p4, p5, p6, p7])) := rfl
    _ = _ := by rw [leBytes4_le32, hp]; rfl

/-! ### The round trip -/

/-- The fields of an instruction select its own row of the opcode table (R63, R68). -/
theorem decodeFields_instr (i : Instr) : decodeFields i.op i.k i.operands = .ok i := by
  cases i <;> rfl

/-- The word of a decoded instruction has the bytes it was decoded from. -/
theorem encodeBytes_of_decode {bs : List Byte} {i : Instr} (h : decode bs = .ok i) : encodeBytes i = bs := by
  match bs, decode_length h with
  | [op, k, a, b, w0, w1, w2, w3, p0, p1, p2, p3, p4, p5, p6, p7], _ =>
    obtain ⟨hop, hk, hr⟩ := decodeFields_fields h
    rw [encodeBytes, encode, hop, hk, hr, bytesOfWord_requestWord_of_bytes]

/-- Settles O20: the word keeps every field byte by byte, and the fields fix the row and its operands. -/
theorem decodeAndEncodeAgree : Obligations.DecodeAndEncodeAgree :=
  ⟨fun i => (decode_bytesOfWord_requestWord i.op i.k i.operands).trans (decodeFields_instr i),
    fun _ _ => encodeBytes_of_decode⟩

/-! ### What `OP` and `K` pick -/

/-- With `OP` 0x0A the selector's place in the table of `ENC` is the decoder's answer (R68). -/
theorem decodeFields_enc (k : Byte) (r : Operands) :
    decodeFields 0x0A k r = (encBySelector[k.toNat]?.join.map (· r)).elim (.error .illegalK) .ok := by
  by_cases hk : k.toNat < 17
  case pos =>
    calc decodeFields 0x0A k r = (Cmd.all[k.toNat]?).elim (.error .illegalK) (encRow · r) := by
          simp only [decodeFields, Cmd.ofSelector]
          cases Cmd.all[k.toNat]? <;> rfl
      _ = _ := by
          generalize k.toNat = n at hk
          interval_cases n <;> rfl
  case neg =>
    rw [decodeFields_illegalSelector (.inl ⟨rfl, .inr (by omega)⟩), List.getElem?_eq_none (not_lt.mp hk)]
    rfl

/-- With `OP` 0x0B the selector's place in the table of `DEC` is the decoder's answer (R68). -/
theorem decodeFields_dec (k : Byte) (r : Operands) :
    decodeFields 0x0B k r = (decBySelector[k.toNat]?.join.map (· r)).elim (.error .illegalK) .ok := by
  by_cases hk : k.toNat < 17
  case pos =>
    calc decodeFields 0x0B k r = (Cmd.all[k.toNat]?).elim (.error .illegalK) (decRow · r) := by
          simp only [decodeFields, Cmd.ofSelector]
          cases Cmd.all[k.toNat]? <;> rfl
      _ = _ := by
          generalize k.toNat = n at hk
          interval_cases n <;> rfl
  case neg =>
    rw [decodeFields_illegalSelector (.inr ⟨rfl, .inr (.inr (by omega))⟩), List.getElem?_eq_none (not_lt.mp hk)]
    rfl

/-- A place of a table without a command, or beyond its end. -/
theorem join_eq_none_of_ne {α : Type} {place : Option (Option α)} (h : ∀ x, place ≠ some (some x)) :
    place.join = none := by
  match place with
  | none | some none => rfl
  | some (some x) => exact absurd rfl (h x)

/-- Settles O22: the tables of `ENC` and `DEC` give the command or, at a place without one, the rejection. -/
theorem selectorPicksTheCommand : Obligations.SelectorPicksTheCommand := by
  intro k r
  rw [decodeFields_enc, decodeFields_dec]
  refine ⟨fun make h => ?_, fun h => ?_, fun make h => ?_, fun h => ?_⟩
  · rw [h]; rfl
  · rw [join_eq_none_of_ne h]; rfl
  · rw [h]; rfl
  · rw [join_eq_none_of_ne h]; rfl

/-- Settles O21: each of the nine opcodes is compared before `K` or an operand is looked at. -/
theorem opPicksThePlainOperation : Obligations.OpPicksThePlainOperation := by
  simp only [Obligations.OpPicksThePlainOperation, List.forall_mem_cons]
  exact ⟨fun _ _ => rfl, fun _ _ => rfl, fun _ _ => rfl, fun _ _ => rfl, fun _ _ => rfl, fun _ _ => rfl, fun _ _ => rfl,
    fun _ _ => rfl, fun _ _ => rfl, List.forall_mem_nil _⟩

/-- Settles O19: four closed words, decoded. -/
theorem knownRequestBytesDecode : Obligations.KnownRequestBytesDecode := ⟨rfl, rfl, rfl, rfl⟩

end Sys2Proof

namespace Sys2Proof.Machine

/-! ### Taking a request from the port -/

/-- Settles O18: bytes that decode are the 16 of one word, so they are the next request. -/
theorem stepRunsTheDecodedInstruction : Obligations.StepRunsTheDecodedInstruction :=
  fun _ _ _ _ hport hdecode => step_decode_ok hport (decode_length hdecode) hdecode

/-- Settles O40: with fewer than 16 bytes and no reset behind them there is nothing to take. -/
theorem incompleteRequestWaits : Obligations.IncompleteRequestWaits := by
  intro s bs hlen hport
  simp only [step, hport, takeRequest, takeBytes_waiting 16 [] bs hlen]

/-! ### The response word -/

/-- Settles O33: each field stands right above the ones below it in the word, and the codes are closed tables. -/
theorem responseWordHoldsItsFields : Obligations.ResponseWordHoldsItsFields := by
  have skip {m n start len : Nat} (hi : BitVec m) (lo : BitVec n) (h : n ≤ start) :
      (hi ++ lo).extractLsb' start len = hi.extractLsb' (start - n) len := BitVec.extractLsb'_append_eq_of_le h
  refine ⟨fun x => ⟨?st, ?fld, ?exp, ?act, ?v, ?f⟩, rfl, rfl⟩
  case st => exact BitVec.extractLsb'_append_eq_right
  case fld => exact (skip _ _ (by decide)).trans BitVec.extractLsb'_append_eq_right
  case exp => exact (skip _ _ (by decide)).trans ((skip _ _ (by decide)).trans BitVec.extractLsb'_append_eq_right)
  case act =>
    exact (skip _ _ (by decide)).trans ((skip _ _ (by decide)).trans ((skip _ _ (by decide)).trans
      BitVec.extractLsb'_append_eq_right))
  case v =>
    exact (skip _ _ (by decide)).trans ((skip _ _ (by decide)).trans ((skip _ _ (by decide)).trans
      ((skip _ _ (by decide)).trans BitVec.extractLsb'_append_eq_right)))
  case f =>
    exact (skip _ _ (by decide)).trans ((skip _ _ (by decide)).trans ((skip _ _ (by decide)).trans
      ((skip _ _ (by decide)).trans BitVec.extractLsb'_append_eq_left)))

end Sys2Proof.Machine

/-! PROOFS. The statements about what a request does to the state of 10_state.md: which operations change it (R50), the valid
bits (R22), what of an accumulator is observed (R22, R28), and what an error leaves behind (60_exceptions.md R210, R213). -/

namespace Sys2Proof

/-! ### The legal requests, field by field (30_encoding.md R64) -/

theorem wfNoOperand_iff (k : Byte) (r : Operands) :
    wfNoOperand k r = true ↔ k = 0 ∧ r.a = 0 ∧ r.b = 0 ∧ r.w = 0 ∧ r.p = 0 := by
  simp [wfNoOperand, zeroByte, and_assoc]

theorem wfFeed_iff (k : Byte) (r : Operands) :
    wfFeed k r = true ↔ (k = 0 ∧ r.a = 0 ∧ r.w = 0) ∧ r.b.toNat ≤ 8 := by
  simp [wfFeed, zeroByte, countOk, and_assoc]

theorem highHalfZero_iff (w : Word32) : highHalfZero w = true ↔ w.toNat < 0x10000 :=
  beq_iff_eq.trans (Machine.highHalf_eq_zero_iff w)

theorem aboveIdZero_iff (w : Word32) : aboveIdZero w = true ↔ w.toNat < 0x800 :=
  beq_iff_eq.trans (Machine.aboveId_eq_zero_iff w)

theorem wellFormed_crc16Init_iff (k : Byte) (r : Operands) :
    (Instr.crc16Init k r).wellFormed = true ↔ k = 0 ∧ r.a = 0 ∧ r.b = 0 ∧ r.w.toNat < 0x10000 ∧ r.p = 0 := by
  simp [Instr.wellFormed, zeroByte, highHalfZero_iff, and_assoc]

theorem wellFormed_crc32Init_iff (k : Byte) (r : Operands) :
    (Instr.crc32Init k r).wellFormed = true ↔ k = 0 ∧ r.a = 0 ∧ r.b = 0 ∧ r.p = 0 := by
  simp [Instr.wellFormed, zeroByte, and_assoc]

end Sys2Proof

namespace Sys2Proof.Machine

/-! ### Every step answers -/

theorem exec_next (i : Instr) (s : State) : ∃ t, exec i s = .next t := by cases i <;> exact ⟨_, rfl⟩

/-- Settles O32: a step waits, takes a reset, performs an instruction, or answers a word that names none. -/
theorem stepAlwaysAnswersNext : Obligations.StepAlwaysAnswersNext := by
  intro s
  obtain ⟨_, hs⟩ | ⟨rest, _, hs⟩ | ⟨_, rest, i, _, _, hs⟩ | ⟨_, rest, e, _, _, hs⟩ := step_cases s
  case inr.inr.inl =>
    rw [hs]
    exact exec_next i _
  all_goals exact ⟨_, hs⟩

/-! ### Operations that change no state, and errors -/

/-- Settles O36: an operation that is neither INIT nor FEED only responds. -/
theorem onlyInitAndFeedChangeState : Obligations.OnlyInitAndFeedChangeState := by
  intro i s t h h1 h2 h4 h5
  obtain ⟨x, hx⟩ := exec_onlyResponds (i := i) (fun hi => hi.elim h1 (·.elim h2 (·.elim h4 h5))) s
  exact ⟨x, Host.Outcome.next.inj (h.symm.trans hx)⟩

/-- Running checks does not look at the response port. -/
theorem State.answer_after_respond (s : State) (x : Response) (cs : List Check) (done : State) :
    (s.respond x).answer cs done = s.answer cs done := by
  unfold State.answer
  cases firstFailing cs <;> rfl

/-- No instruction reads the response port. -/
theorem exec_after_respond (i : Instr) (s : State) (x : Response) : exec i (s.respond x) = exec i s := by
  have hcodec := exec_codec (i := i)
  cases i with
  | crc16Init k r | crc16Feed k r | crc16Read k r | crc32Init k r | crc32Feed k r | crc32Read k r =>
    exact congrArg Host.Outcome.next (s.answer_after_respond x _ _)
  | _ =>
    obtain ⟨f, hf⟩ := hcodec (by simp [Instr.op])
    rw [hf, hf]
    rfl

/-- Settles O29: an error only puts its response on the port, and no instruction reads that. -/
theorem errorsLeaveNoTrace : Obligations.ErrorsLeaveNoTrace := by
  intro i j s t x h hrsp hst
  obtain ⟨y, hy, hunchanged⟩ := exec_answeredBy h
  obtain rfl : y = x := Option.some.inj (hy.symm.trans hrsp)
  rw [hunchanged hst, exec_after_respond]

/-! ### The valid bits -/

/-- Running checks keeps a valid bit when passing them does. -/
theorem State.answer_v16 {s done : State} (cs : List Check) (h : done.v16 = s.v16) : (s.answer cs done).v16 = s.v16 := by
  obtain ⟨x, _, hraised⟩ | ⟨_, hdone⟩ := s.answer_cases cs done
  · rw [hraised, State.raise_v16]
  · rw [hdone, h]

theorem State.answer_v32 {s done : State} (cs : List Check) (h : done.v32 = s.v32) : (s.answer cs done).v32 = s.v32 := by
  obtain ⟨x, _, hraised⟩ | ⟨_, hdone⟩ := s.answer_cases cs done
  · rw [hraised, State.raise_v32]
  · rw [hdone, h]

/-- R22 for CRC16: the legal INIT sets the valid bit, and nothing else touches it. -/
theorem exec_v16 {i : Instr} {s t : State} (h : exec i s = .next t) :
    t.v16 = if i.op = 0x01 ∧ i.wellFormed = true then true else s.v16 := by
  have hresponds := exec_onlyResponds (i := i)
  cases i with
  | crc16Init k r =>
    rw [exec_crc16Init] at h
    cases h
    by_cases hwf : (Instr.crc16Init k r).wellFormed = true
    · rw [if_pos ((wellFormed_crc16Init_iff k r).mp hwf), if_pos ⟨rfl, hwf⟩, State.respond_v16, State.initAcc16_v16]
    · rw [if_neg (mt (wellFormed_crc16Init_iff k r).mpr hwf), if_neg (hwf ·.2), State.raise_v16]
  | crc16Feed k r | crc32Init k r | crc32Feed k r =>
    cases h
    exact State.answer_v16 _ rfl
  | _ =>
    obtain ⟨x, hx⟩ := hresponds (by simp [Instr.op]) s
    cases h.symm.trans hx
    simp [Instr.op]

/-- R22 for CRC32. -/
theorem exec_v32 {i : Instr} {s t : State} (h : exec i s = .next t) :
    t.v32 = if i.op = 0x04 ∧ i.wellFormed = true then true else s.v32 := by
  have hresponds := exec_onlyResponds (i := i)
  cases i with
  | crc32Init k r =>
    rw [exec_crc32Init] at h
    cases h
    by_cases hwf : (Instr.crc32Init k r).wellFormed = true
    · rw [if_pos ((wellFormed_crc32Init_iff k r).mp hwf), if_pos ⟨rfl, hwf⟩, State.respond_v32, State.initAcc32_v32]
    · rw [if_neg (mt (wellFormed_crc32Init_iff k r).mpr hwf), if_neg (hwf ·.2), State.raise_v32]
  | crc16Init k r | crc16Feed k r | crc32Feed k r =>
    cases h
    exact State.answer_v32 _ rfl
  | _ =>
    obtain ⟨x, hx⟩ := hresponds (by simp [Instr.op]) s
    cases h.symm.trans hx
    simp [Instr.op]

/-- A legal FEED or READ of CRC16 before its INIT (R206). -/
theorem exec_crc16_uninitialised {i : Instr} {s : State} (hi : i.op = 0x02 ∨ i.op = 0x03) (hwf : i.wellFormed = true)
    (hclear : s.v16 = false) : exec i s = .next (s.raise (notInitialised .crc16)) := by
  cases i with
  | crc16Feed k r =>
    obtain ⟨hzero, hcount⟩ := (wfFeed_iff k r).mp hwf
    rw [exec_crc16Feed, if_pos hzero, if_neg hcount.not_gt, if_neg (ne_true_of_eq_false hclear)]
  | crc16Read k r =>
    rw [exec_crc16Read, if_pos ((wfNoOperand_iff k r).mp hwf), if_neg (ne_true_of_eq_false hclear)]
  | _ => simp [Instr.op] at hi

/-- A legal FEED or READ of CRC32 before its INIT (R206). -/
theorem exec_crc32_uninitialised {i : Instr} {s : State} (hi : i.op = 0x05 ∨ i.op = 0x06) (hwf : i.wellFormed = true)
    (hclear : s.v32 = false) : exec i s = .next (s.raise (notInitialised .crc32)) := by
  cases i with
  | crc32Feed k r =>
    obtain ⟨hzero, hcount⟩ := (wfFeed_iff k r).mp hwf
    rw [exec_crc32Feed, if_pos hzero, if_neg hcount.not_gt, if_neg (ne_true_of_eq_false hclear)]
  | crc32Read k r =>
    rw [exec_crc32Read, if_pos ((wfNoOperand_iff k r).mp hwf), if_neg (ne_true_of_eq_false hclear)]
  | _ => simp [Instr.op] at hi

/-- Settles O35: each valid bit is 0 after a reset, and the legal INIT of its width is the one request that sets it. -/
theorem validBitsFollowInit : Obligations.ValidBitsFollowInit := by
  refine ⟨⟨State.powerUp_v16 _, State.powerUp_v32 _⟩, fun s rest => ⟨s.afterReset_v16 rest, s.afterReset_v32 rest⟩,
    fun i s t h => ⟨fun hop hwf => ?set16, fun hno => ?kept16, fun hop hwf => ?set32, fun hno => ?kept32,
      fun hop hwf hclear => ?unread16, fun hop hwf hclear => ?unread32⟩⟩
  case set16 => rw [exec_v16 h, if_pos ⟨hop, hwf⟩]
  case kept16 => rw [exec_v16 h, if_neg hno]
  case set32 => rw [exec_v32 h, if_pos ⟨hop, hwf⟩]
  case kept32 => rw [exec_v32 h, if_neg hno]
  case unread16 => exact Host.Outcome.next.inj (h.symm.trans (exec_crc16_uninitialised hop hwf hclear))
  case unread32 => exact Host.Outcome.next.inj (h.symm.trans (exec_crc32_uninitialised hop hwf hclear))

/-! ### States that no request can tell apart -/

section

variable {s t : State}

theorem State.SameObservable.v16_eq (h : s.SameObservable t) : s.v16 = t.v16 := h.1

theorem State.SameObservable.v32_eq (h : s.SameObservable t) : s.v32 = t.v32 := h.2.1

theorem State.SameObservable.cfg_eq (h : s.SameObservable t) : s.cfg = t.cfg := h.2.2.1

theorem State.SameObservable.port_eq (h : s.SameObservable t) : s.port = t.port := h.2.2.2.1

theorem State.SameObservable.acc16_eq (h : s.SameObservable t) (hv : s.v16 = true) : s.acc16 = t.acc16 :=
  h.2.2.2.2.2.2.1 hv

theorem State.SameObservable.acc32_eq (h : s.SameObservable t) (hv : s.v32 = true) : s.acc32 = t.acc32 :=
  h.2.2.2.2.2.2.2 hv

theorem State.SameObservable.withPort (h : s.SameObservable t) (rest : List PortEvent) :
    State.SameObservable { s with port := rest } { t with port := rest } := by
  obtain ⟨hv16, hv32, hcfg, _, hrsp, hresets, h16, h32⟩ := h
  exact ⟨hv16, hv32, hcfg, rfl, hrsp, hresets, h16, h32⟩

theorem State.SameObservable.respond (h : s.SameObservable t) (x : Response) :
    (s.respond x).SameObservable (t.respond x) := by
  obtain ⟨hv16, hv32, hcfg, hport, _, hresets, h16, h32⟩ := h
  exact ⟨hv16, hv32, hcfg, hport, rfl, hresets, h16, h32⟩

theorem State.SameObservable.initAcc16 (h : s.SameObservable t) (c : BitVec 16) :
    (s.initAcc16 c).SameObservable (t.initAcc16 c) := by
  obtain ⟨_, hv32, hcfg, hport, hrsp, hresets, _, h32⟩ := h
  exact ⟨rfl, hv32, hcfg, hport, hrsp, hresets, fun _ => rfl, h32⟩

theorem State.SameObservable.initAcc32 (h : s.SameObservable t) (c : BitVec 32) :
    (s.initAcc32 c).SameObservable (t.initAcc32 c) := by
  obtain ⟨hv16, _, hcfg, hport, hrsp, hresets, h16, _⟩ := h
  exact ⟨hv16, rfl, hcfg, hport, hrsp, hresets, h16, fun _ => rfl⟩

theorem State.SameObservable.setAcc16 (h : s.SameObservable t) {c d : BitVec 16} (hcd : s.v16 = true → c = d) :
    (s.setAcc16 c).SameObservable (t.setAcc16 d) := by
  obtain ⟨hv16, hv32, hcfg, hport, hrsp, hresets, _, h32⟩ := h
  exact ⟨hv16, hv32, hcfg, hport, hrsp, hresets, hcd, h32⟩

theorem State.SameObservable.setAcc32 (h : s.SameObservable t) {c d : BitVec 32} (hcd : s.v32 = true → c = d) :
    (s.setAcc32 c).SameObservable (t.setAcc32 d) := by
  obtain ⟨hv16, hv32, hcfg, hport, hrsp, hresets, h16, _⟩ := h
  exact ⟨hv16, hv32, hcfg, hport, hrsp, hresets, h16, hcd⟩

/-- A reset makes an accumulator's valid bit 0, so it makes every difference between two such states unobservable too. -/
theorem State.SameObservable.afterReset (h : s.SameObservable t) (rest : List PortEvent) :
    (s.afterReset rest).SameObservable (t.afterReset rest) := by
  obtain ⟨_, _, hcfg, _, _, hresets, _, _⟩ := h
  exact ⟨rfl, rfl, hcfg, rfl, rfl, congrArg (· + 1) hresets, nofun, nofun⟩

theorem State.SameObservable.answer (h : s.SameObservable t) (cs : List Check) {done done' : State}
    (hdone : done.SameObservable done') : (s.answer cs done).SameObservable (t.answer cs done') := by
  unfold State.answer
  cases firstFailing cs with
  | none => exact hdone
  | some e => exact h.respond e

end

/-- R22 for every instruction: an accumulator whose valid bit is 0 is neither put into a response nor into one whose valid
bit is 1. -/
theorem exec_sameObservable {i : Instr} {s t s' : State} (h : s.SameObservable t) (hs : exec i s = .next s') :
    ∃ t', exec i t = .next t' ∧ s'.SameObservable t' := by
  have hcodec := exec_codec (i := i)
  cases i with
  | crc16Init k r =>
    cases hs
    exact ⟨_, rfl, h.answer _ ((h.initAcc16 _).respond _)⟩
  | crc32Init k r =>
    cases hs
    exact ⟨_, rfl, h.answer _ ((h.initAcc32 _).respond _)⟩
  | crc16Feed k r =>
    cases hs
    refine ⟨_, congrArg Host.Outcome.next (by rw [← h.v16_eq]), h.answer _ ((h.setAcc16 fun hv => ?_).respond _)⟩
    rw [h.acc16_eq hv]
  | crc32Feed k r =>
    cases hs
    refine ⟨_, congrArg Host.Outcome.next (by rw [← h.v32_eq]), h.answer _ ((h.setAcc32 fun hv => ?_).respond _)⟩
    rw [h.acc32_eq hv]
  | crc16Read k r =>
    refine ⟨_, exec_crc16Read k r t, ?_⟩
    rw [exec_crc16Read] at hs
    cases hs
    rw [← h.v16_eq]
    split
    · split
      next hv => rw [h.acc16_eq hv]; exact h.respond _
      next => exact h.respond _
    · exact h.respond _
  | crc32Read k r =>
    refine ⟨_, exec_crc32Read k r t, ?_⟩
    rw [exec_crc32Read] at hs
    cases hs
    rw [← h.v32_eq]
    split
    · split
      next hv => rw [h.acc32_eq hv]; exact h.respond _
      next => exact h.respond _
    · exact h.respond _
  | _ =>
    obtain ⟨f, hf⟩ := hcodec (by simp [Instr.op])
    cases hs.symm.trans (hf s)
    exact ⟨_, hf t, h.cfg_eq ▸ h.respond _⟩

/-- Settles O37: both states take the same from the port, and each kind of step keeps the relation. -/
theorem unwrittenAccumulatorsAreUnobservable : Obligations.UnwrittenAccumulatorsAreUnobservable := by
  intro s t s' h hs
  unfold step at hs ⊢
  rw [← h.port_eq]
  cases htake : takeRequest s.port with
  | waiting =>
    simp only [htake] at hs
    cases hs
    exact ⟨t, rfl, h⟩
  | reset rest =>
    simp only [htake] at hs
    cases hs
    exact ⟨_, rfl, h.afterReset rest⟩
  | request bs rest =>
    cases hdecode : decode bs with
    | ok i =>
      simp only [htake, hdecode] at hs ⊢
      exact exec_sameObservable (h.withPort rest) hs
    | error e =>
      simp only [htake, hdecode] at hs ⊢
      cases hs
      exact ⟨_, rfl, (h.withPort rest).respond _⟩

end Sys2Proof.Machine

/-! PROOFS. The statements about the responses of 60_exceptions.md: the form each status fixes (R200 to R206), the answers each
operation can give (R207), and which requests are illegal (R205, R208). -/

namespace Sys2Proof.Machine

/-! ### The answers of a list of checks -/

/-- A response is one of these answers, and has the form its status fixes. -/
def Response.Fits (allowed : List (Status × Field)) (x : Response) : Prop := (x.st, x.fld) ∈ allowed ∧ x.wellShaped

/-- Every check that fails raises a response that fits. -/
def ChecksFit (allowed : List (Status × Field)) (cs : List Check) : Prop := ∀ c ∈ cs, c.1 = true → c.2.Fits allowed

/-- A response that fits stands on the port. -/
def State.AnswersWithin (allowed : List (Status × Field)) (t : State) : Prop := ∃ x, t.rsp = some x ∧ x.Fits allowed

theorem checksFit_nil (allowed : List (Status × Field)) : ChecksFit allowed [] := List.forall_mem_nil _

theorem ChecksFit.cons {allowed : List (Status × Field)} {c : Check} {cs : List Check}
    (hc : c.1 = true → c.2.Fits allowed) (hcs : ChecksFit allowed cs) : ChecksFit allowed (c :: cs) :=
  List.forall_mem_cons.mpr ⟨hc, hcs⟩

/-- Either the first failing check answers, or the operation itself does. -/
theorem State.answersWithin_answer {allowed : List (Status × Field)} {cs : List Check} {x : Response}
    (hcs : ChecksFit allowed cs) (hx : x.Fits allowed) (s done : State) :
    State.AnswersWithin allowed (s.answer cs (done.respond x)) := by
  obtain ⟨e, he, hraised⟩ | ⟨_, hdone⟩ := s.answer_cases cs (done.respond x)
  · exact ⟨e, by rw [hraised, State.raise_rsp], hcs _ (firstFailing_mem he) rfl⟩
  · exact ⟨x, by rw [hdone, State.respond_rsp], hx⟩

section

variable {allowed : List (Status × Field)}

theorem okResponse_fits (h : (.ok, .none) ∈ allowed) (v : Word32) (f : Payload) : (okResponse v f).Fits allowed :=
  ⟨h, okResponse_wellShaped v f⟩

theorem idMismatchResponse_fits (h : (.idMismatch, .none) ∈ allowed) : idMismatchResponse.Fits allowed :=
  ⟨h, idMismatchResponse_wellShaped⟩

theorem reservedCheck_fits (h : (.illegalRequest, .reserved) ∈ allowed) (nonzero : Bool) :
    (reservedCheck nonzero).1 = true → (reservedCheck nonzero).2.Fits allowed :=
  fun _ => ⟨h, illegalRequest_wellShaped (by decide)⟩

theorem rangeCheck_fits (h : (.illegalRequest, .range) ∈ allowed) (b : Byte) :
    (rangeCheck b).1 = true → (rangeCheck b).2.Fits allowed :=
  fun _ => ⟨h, illegalRequest_wellShaped (by decide)⟩

theorem initialisedCheck_fits {fld : Field} (hfld : fld = .crc16 ∨ fld = .crc32) (h : (.notInitialised, fld) ∈ allowed)
    (valid : Bool) : (initialisedCheck valid fld).1 = true → (initialisedCheck valid fld).2.Fits allowed :=
  fun _ => ⟨h, notInitialised_wellShaped hfld⟩

/-- A byte that is not the one expected is reported with two different bytes (R203). -/
theorem byteCheck_fits {fld : Field} (hfld : fld = .length ∨ fld = .status ∨ fld = .ack ∨ fld = .magic)
    (h : (.validationFailed, fld) ∈ allowed) (act exp : Byte) :
    (act != exp) = true → (validationFailed fld exp act).Fits allowed :=
  fun hne => ⟨h, validationFailed_wellShaped hfld (bne_iff_ne.mp hne).symm⟩

theorem unsupportedParameter_fits {fld : Field} (hfld : fld = .packetLen ∨ fld = .crcType)
    (h : (.unsupportedParameter, fld) ∈ allowed) (v : Word32) : (unsupportedParameter fld v).Fits allowed :=
  ⟨h, unsupportedParameter_wellShaped v hfld⟩

theorem noCheck_fits (p : Payload) : ChecksFit allowed (RspCheck.none.checks p) := checksFit_nil allowed

theorem ack_fits (h : (.validationFailed, .ack) ∈ allowed) (code : Byte) (p : Payload) :
    ChecksFit allowed ((RspCheck.ack code).checks p) :=
  .cons (byteCheck_fits (by decide) h _ _) (checksFit_nil allowed)

theorem magic_fits (h : (.validationFailed, .magic) ∈ allowed) (p : Payload) :
    ChecksFit allowed (RspCheck.magic.checks p) :=
  .cons (byteCheck_fits (by decide) h _ _) (.cons (byteCheck_fits (by decide) h _ _) (checksFit_nil allowed))

/-- The encoder answers as its command's own checks do, or `RESERVED` or `OK` (R143). -/
theorem encCommand_answersWithin (hok : (.ok, .none) ∈ allowed) (hreserved : (.illegalRequest, .reserved) ∈ allowed)
    {cs : List Check} (hcs : ChecksFit allowed cs) (c : Cmd) (d : List Byte) (r : Operands) (s : State) :
    State.AnswersWithin allowed (encCommand c cs d r s) :=
  State.answersWithin_answer (.cons (reservedCheck_fits hreserved _) hcs) (okResponse_fits hok _ _) s s

/-- The validator answers as its command check does, or gives one of the answers that every `DEC` command has (R135). -/
theorem decResponse_answersWithin (hshared : validatorAnswers ⊆ allowed) {k : RspCheck} {r : Operands}
    (hk : ChecksFit allowed (k.checks r.p)) (c : RspCmd) (ex : Payload → Word32) (s : State) :
    State.AnswersWithin allowed (decResponse c k ex r s) :=
  State.answersWithin_answer
    (.cons (reservedCheck_fits (hshared (by decide)) _) <|
      .cons (fun _ => idMismatchResponse_fits (hshared (by decide))) <|
      .cons (byteCheck_fits (by decide) (hshared (by decide)) _ _) <|
      .cons (byteCheck_fits (by decide) (hshared (by decide)) _ _) hk)
    (okResponse_fits (hshared (by decide)) _ _) s s

end

/-! ### The answers of each operation -/

theorem ok_mem_possibleAnswers (i : Instr) : (.ok, .none) ∈ possibleAnswers i := by
  cases i <;> simp [possibleAnswers, validatorAnswers]

theorem reserved_mem_possibleAnswers (i : Instr) : (.illegalRequest, .reserved) ∈ possibleAnswers i := by
  cases i <;> simp [possibleAnswers, validatorAnswers]

/-- R207 and R200 to R206 for every instruction: it answers within its row of the table, in the form of the status. -/
theorem exec_answersWithin (i : Instr) (s : State) : ∃ t, exec i s = .next t ∧ t.AnswersWithin (possibleAnswers i) := by
  have hok := ok_mem_possibleAnswers i
  have hreserved := reserved_mem_possibleAnswers i
  have hnil := checksFit_nil (possibleAnswers i)
  cases i with
  | nop k r | crc16Init k r | crc32Init k r | frameData k r =>
    exact ⟨_, rfl, State.answersWithin_answer (.cons (reservedCheck_fits hreserved _) hnil) (okResponse_fits hok _ _) _ _⟩
  | crc16Feed k r | crc32Feed k r =>
    exact ⟨_, rfl, State.answersWithin_answer
      (.cons (reservedCheck_fits hreserved _) <| .cons (rangeCheck_fits (by simp [possibleAnswers]) _) <|
        .cons (initialisedCheck_fits (by decide) (by simp [possibleAnswers]) _) hnil) (okResponse_fits hok _ _) _ _⟩
  | crc16Read k r | crc32Read k r =>
    exact ⟨_, rfl, State.answersWithin_answer
      (.cons (reservedCheck_fits hreserved _) <|
        .cons (initialisedCheck_fits (by decide) (by simp [possibleAnswers]) _) hnil) (okResponse_fits hok _ _) _ _⟩
  | frameCmd k r =>
    exact ⟨_, rfl, State.answersWithin_answer
      (.cons (reservedCheck_fits hreserved _) <| .cons (rangeCheck_fits (by simp [possibleAnswers]) _) hnil)
      (okResponse_fits hok _ _) _ _⟩
  | encSetPktLen r =>
    exact ⟨_, rfl, encCommand_answersWithin hok hreserved
      (.cons (reservedCheck_fits hreserved _) <|
        .cons (fun _ => unsupportedParameter_fits (by decide) (by simp [possibleAnswers]) _) hnil) _ _ _ _⟩
  | encVerifyAll r =>
    exact ⟨_, rfl, encCommand_answersWithin hok hreserved
      (.cons (fun _ => unsupportedParameter_fits (by decide) (by simp [possibleAnswers]) _) <|
        .cons (reservedCheck_fits hreserved _) hnil) _ _ _ _⟩
  | encGetDevInfo r | encPrepare r | encGetBlVer r | encGetAppVer r | encGetHwType r | encGetBatSn r
  | encGetPktLen r | encSetAppLen r | encSetPktSeq r | encSetPktAddr r | encVerifyPkt r
  | encUpdateCur r | encUpdateAll r | encGetUpdStatus r =>
    exact ⟨_, rfl, encCommand_answersWithin hok hreserved (.cons (reservedCheck_fits hreserved _) hnil) _ _ _ _⟩
  | decGetDevInfo r | decGetBlVer r | decGetAppVer r | decGetHwType r | decGetBatSn r | decGetPktLen r
  | decSetAppLen r | decSetPktAddr r | decGetUpdStatus r =>
    exact ⟨_, rfl, decResponse_answersWithin (List.Subset.refl _) (noCheck_fits _) _ _ _⟩
  | decPrepare r =>
    exact ⟨_, rfl, decResponse_answersWithin (List.subset_append_left _ _) (magic_fits (by simp) _) _ _ _⟩
  | decSetPktLen r | decSetPktSeq r | decSendPkt r | decVerifyPkt r | decVerifyAll r =>
    exact ⟨_, rfl, decResponse_answersWithin (List.subset_append_left _ _) (ack_fits (by simp) _ _) _ _ _⟩

/-- Settles O27: each operation's checks, one by one, raise answers of its row, and what it does behind them is `OK`. -/
theorem answersAreThoseOfTheStatusTable : Obligations.AnswersAreThoseOfTheStatusTable := by
  intro i s
  obtain ⟨t, h, x, hrsp, hmem, _⟩ := exec_answersWithin i s
  exact ⟨t, x, h, hrsp, hmem⟩

/-! ### The response port -/

theorem State.AnswersWithin.portWellShaped {allowed : List (Status × Field)} {t : State} (h : t.AnswersWithin allowed) :
    t.PortWellShaped := by
  obtain ⟨x, hrsp, _, hshaped⟩ := h
  intro y hy
  cases hrsp.symm.trans hy
  exact hshaped

theorem State.portWellShaped_of_rsp_eq_none {s : State} (h : s.rsp = none) : s.PortWellShaped :=
  fun _ hx => nomatch h.symm.trans hx

theorem decodeErrorResponse_wellShaped (e : DecodeError) : (decodeErrorResponse e).wellShaped := by
  cases e <;> exact illegalRequest_wellShaped (by decide)

/-- Settles O31: nothing stands on the response port right after power-up. -/
theorem resetResponsePortWellShaped : Obligations.ResetResponsePortWellShaped :=
  State.portWellShaped_of_rsp_eq_none (State.powerUp_rsp Config.cfg)

/-- Settles O30: a step keeps the port as it is, empties it, or puts an answer on it that has its status's form. -/
theorem stepKeepsResponsesWellShaped : Obligations.StepKeepsResponsesWellShaped := by
  intro s t hs h
  obtain ⟨_, hstep⟩ | ⟨rest, _, hstep⟩ | ⟨_, rest, i, _, _, hstep⟩ | ⟨_, rest, e, _, _, hstep⟩ := step_cases s
  case inl =>
    cases h.symm.trans hstep
    exact hs
  case inr.inl =>
    cases h.symm.trans hstep
    exact State.portWellShaped_of_rsp_eq_none (s.afterReset_rsp rest)
  case inr.inr.inl =>
    obtain ⟨t', hexec, hanswers⟩ := exec_answersWithin i { s with port := rest }
    cases h.symm.trans (hstep.trans hexec)
    exact hanswers.portWellShaped
  case inr.inr.inr =>
    cases h.symm.trans hstep
    intro x hx
    cases hx
    exact decodeErrorResponse_wellShaped e

/-! ### Illegal requests -/

/-- The request is answered `ILLEGAL_REQUEST`. -/
def State.AnsweredIllegal (t : State) : Prop := t.rsp.map Response.st = some .illegalRequest

theorem State.answeredIllegal_respond (s : State) (x : Response) :
    (s.respond x).AnsweredIllegal ↔ x.st = .illegalRequest := by
  simp [State.AnsweredIllegal]

theorem State.answeredIllegal_raise (s : State) (x : Response) : (s.raise x).AnsweredIllegal ↔ x.st = .illegalRequest :=
  s.answeredIllegal_respond x

/-- An operation that reports its reserved fields first and nothing else of that status. -/
theorem State.answeredIllegal_ite {done s : State} {allZero : Prop} [Decidable allZero] (h : ¬ done.AnsweredIllegal) :
    (if allZero then done else s.raise (illegalRequest .reserved)).AnsweredIllegal ↔ ¬ allZero := by
  split
  next hzero => exact iff_of_false h (not_not_intro hzero)
  next hnonzero => exact iff_of_true (s.answeredIllegal_raise _ |>.mpr rfl) hnonzero

theorem wellFormed_frameCmd_iff (k : Byte) (r : Operands) :
    (Instr.frameCmd k r).wellFormed = true ↔ (k = 0 ∧ r.w = 0) ∧ r.b.toNat ≤ 8 := by
  simp [Instr.wellFormed, zeroByte, countOk]

theorem wellFormed_frameData_iff (k : Byte) (r : Operands) :
    (Instr.frameData k r).wellFormed = true ↔ k = 0 ∧ r.a = 0 ∧ r.b = 0 ∧ r.w = 0 := by
  simp [Instr.wellFormed, zeroByte, and_assoc]

theorem wfEncVerifyAll_iff (r : Operands) :
    wfEncVerifyAll r = true ↔ (r.b = 0 → r.w.toNat < 0x10000) ∧ r.p = 0 := by
  simp [wfEncVerifyAll, highHalfZero_iff, ← imp_iff_not_or]

theorem wfDec_iff (r : Operands) : wfDec r = true ↔ r.a = 0 ∧ r.b = 0 ∧ r.w.toNat < 0x800 := by
  simp [wfDec, zeroByte, aboveIdZero_iff, and_assoc]

/-- An encoder whose own first check is a reserved field, and whose other checks are none (R143, R152). -/
theorem encCommand_answeredIllegal {nonzero wf : Bool} {r : Operands} (h : nonzero = false ∧ r.p = 0 ↔ wf = true)
    {cs : List Check} (hcs : ∀ c ∈ cs, c.2.st ≠ .illegalRequest) (c : Cmd) (d : List Byte) (s : State) :
    (encCommand c (reservedCheck nonzero :: cs) d r s).AnsweredIllegal ↔ wf = false := by
  rw [encCommand_reserved h, State.answeredIllegal_ite, Bool.not_eq_true]
  rw [State.answer_respond, State.answeredIllegal_respond]
  cases hfirst : firstFailing cs with
  | none => simp
  | some e => exact hcs _ (firstFailing_mem hfirst)

/-- The validator: behind the reserved fields no answer is `ILLEGAL_REQUEST` (R135). -/
theorem decResponse_answeredIllegal (c : RspCmd) (k : RspCheck) (ex : Payload → Word32) (r : Operands) (s : State) :
    (decResponse c k ex r s).AnsweredIllegal ↔ wfDec r = false := by
  rw [decResponse_eq, State.answeredIllegal_ite, ← wfDec_iff, Bool.not_eq_true]
  split_ifs
  · rw [State.answeredIllegal_respond]
    cases hfirst : firstFailing (k.checks r.p) with
    | none => simp
    | some e => simp [k.checks_status r.p hfirst]
  all_goals simp [State.answeredIllegal_raise]

theorem State.not_answeredIllegal_okDone (s : State) : ¬ (s.respond okDone).AnsweredIllegal := by
  simp [State.answeredIllegal_respond]

theorem State.not_answeredIllegal_okResponse (s : State) (v : Word32) (f : Payload) :
    ¬ (s.respond (okResponse v f)).AnsweredIllegal := by
  simp [State.answeredIllegal_respond]

/-- The valid bit is checked behind every check for an illegal request (R208). -/
theorem State.not_answeredIllegal_initialised {done : State} (h : ¬ done.AnsweredIllegal) (s : State) (valid : Bool)
    (fld : Field) : ¬ (if valid = true then done else s.raise (notInitialised fld)).AnsweredIllegal := by
  cases valid
  · simp [State.answeredIllegal_raise]
  · exact h

/-- An operation that reports its reserved fields and its count first and nothing else of that status (R67). -/
theorem State.answeredIllegal_count {done s : State} {allZero : Prop} [Decidable allZero] {b : Byte}
    (h : ¬ done.AnsweredIllegal) :
    (if allZero then if 8 < b.toNat then s.raise (illegalRequest .range) else done
      else s.raise (illegalRequest .reserved)).AnsweredIllegal ↔ ¬ (allZero ∧ b.toNat ≤ 8) := by
  split_ifs with hzero hcount
  · exact iff_of_true (s.answeredIllegal_raise _ |>.mpr rfl) fun hwf => hwf.2.not_gt hcount
  · exact iff_of_false h (not_not_intro ⟨hzero, not_lt.mp hcount⟩)
  · exact iff_of_true (s.answeredIllegal_raise _ |>.mpr rfl) fun hwf => hzero hwf.1

/-- R205 for every instruction. -/
theorem exec_answeredIllegal {i : Instr} {s t : State} (h : exec i s = .next t) :
    t.AnsweredIllegal ↔ i.wellFormed = false := by
  cases i with
  | nop k r =>
    cases h.symm.trans (exec_nop k r s)
    rw [State.answeredIllegal_ite (State.not_answeredIllegal_okDone _), ← wfNoOperand_iff, Bool.not_eq_true,
      Instr.wellFormed]
  | crc16Init k r =>
    cases h.symm.trans (exec_crc16Init k r s)
    rw [State.answeredIllegal_ite (State.not_answeredIllegal_okDone _), ← wellFormed_crc16Init_iff, Bool.not_eq_true]
  | crc32Init k r =>
    cases h.symm.trans (exec_crc32Init k r s)
    rw [State.answeredIllegal_ite (State.not_answeredIllegal_okDone _), ← wellFormed_crc32Init_iff, Bool.not_eq_true]
  | frameData k r =>
    cases h.symm.trans (exec_frameData k r s)
    rw [State.answeredIllegal_ite (State.not_answeredIllegal_okResponse _ _ _), ← wellFormed_frameData_iff,
      Bool.not_eq_true]
  | crc16Read k r =>
    cases h.symm.trans (exec_crc16Read k r s)
    rw [State.answeredIllegal_ite (State.not_answeredIllegal_initialised (State.not_answeredIllegal_okResponse _ _ _) _ _ _),
      ← wfNoOperand_iff, Bool.not_eq_true, Instr.wellFormed]
  | crc32Read k r =>
    cases h.symm.trans (exec_crc32Read k r s)
    rw [State.answeredIllegal_ite (State.not_answeredIllegal_initialised (State.not_answeredIllegal_okResponse _ _ _) _ _ _),
      ← wfNoOperand_iff, Bool.not_eq_true, Instr.wellFormed]
  | crc16Feed k r =>
    cases h.symm.trans (exec_crc16Feed k r s)
    rw [State.answeredIllegal_count (State.not_answeredIllegal_initialised (State.not_answeredIllegal_okDone _) _ _ _),
      ← wfFeed_iff, Bool.not_eq_true, Instr.wellFormed]
  | crc32Feed k r =>
    cases h.symm.trans (exec_crc32Feed k r s)
    rw [State.answeredIllegal_count (State.not_answeredIllegal_initialised (State.not_answeredIllegal_okDone _) _ _ _),
      ← wfFeed_iff, Bool.not_eq_true, Instr.wellFormed]
  | frameCmd k r =>
    cases h.symm.trans (exec_frameCmd k r s)
    rw [State.answeredIllegal_count (State.not_answeredIllegal_okResponse _ _ _), ← wellFormed_frameCmd_iff,
      Bool.not_eq_true]
  | encVerifyAll r =>
    cases h.symm.trans (exec_encVerifyAll r s)
    rw [Instr.wellFormed, ← Bool.not_eq_true, wfEncVerifyAll_iff]
    split_ifs with hp h0 hw h1
    · exact iff_of_false (State.not_answeredIllegal_okResponse _ _ _) (not_not_intro ⟨fun _ => hw, hp⟩)
    · exact iff_of_true (s.answeredIllegal_raise _ |>.mpr rfl) fun hwf => hw (hwf.1 h0)
    · exact iff_of_false (State.not_answeredIllegal_okResponse _ _ _) (not_not_intro ⟨fun h => absurd h h0, hp⟩)
    · exact iff_of_false (by simp [State.answeredIllegal_raise]) (not_not_intro ⟨fun h => absurd h h0, hp⟩)
    · exact iff_of_true (s.answeredIllegal_raise _ |>.mpr rfl) fun hwf => hp hwf.2
  | encSetPktLen r =>
    cases h
    exact encCommand_answeredIllegal (by simp [Instr.wellFormed, wfEncWide, zeroByte]) (by simp) _ _ _
  | encSetAppLen r | encSetPktAddr r =>
    cases h
    exact encCommand_answeredIllegal (by simp [Instr.wellFormed, wfEncWide, zeroByte]) (List.forall_mem_nil _) _ _ _
  | encSetPktSeq r | encVerifyPkt r =>
    cases h
    exact encCommand_answeredIllegal (by simp [Instr.wellFormed, wfEncHalf, zeroByte, highHalfZero, highHalf])
      (List.forall_mem_nil _) _ _ _
  | encGetDevInfo r | encPrepare r | encGetBlVer r | encGetAppVer r | encGetHwType r | encGetBatSn r
  | encGetPktLen r | encUpdateCur r | encUpdateAll r | encGetUpdStatus r =>
    cases h
    exact encCommand_answeredIllegal (by simp [Instr.wellFormed, wfEncNoArg, zeroByte]) (List.forall_mem_nil _) _ _ _
  | decGetDevInfo r | decPrepare r | decGetBlVer r | decGetAppVer r | decGetHwType r | decGetBatSn r
  | decGetPktLen r | decSetPktLen r | decSetAppLen r | decSetPktSeq r | decSetPktAddr r | decSendPkt r
  | decVerifyPkt r | decVerifyAll r | decGetUpdStatus r =>
    cases h
    exact decResponse_answeredIllegal _ _ _ r s

/-- Settles O26: the checks of each operation that raise `ILLEGAL_REQUEST` are together its rules of R64 and R152, and no
check that raises another status comes before one of them that still fails. -/
theorem illegalRequestIffNotWellFormed : Obligations.IllegalRequestIffNotWellFormed := by
  intro i s t x h hrsp
  rw [← exec_answeredIllegal h, State.AnsweredIllegal, hrsp, Option.map_some, Option.some_inj]

end Sys2Proof.Machine

/-! PROOFS. The statements about the validator and the encoder as wholes (41_frame_codec.md R143, R145, R146; 42_dfu_commands.md
R187): which frames `DEC` accepts, which flipped bits it sees, and what an `ENC` frame and an update status are. -/

namespace Sys2Proof.Machine

/-! ### Acceptance -/

/-- The request is answered `OK`. -/
def State.Accepted (t : State) : Prop := t.rsp.map Response.st = some .ok

theorem State.accepted_respond (s : State) (x : Response) : (s.respond x).Accepted ↔ x.st = .ok := by
  simp [State.Accepted]

theorem State.accepted_raise (s : State) (x : Response) : (s.raise x).Accepted ↔ x.st = .ok := s.accepted_respond x

/-- An instruction is accepted when the state behind it holds an `OK`. -/
theorem accepts_iff_accepted {i : Instr} {s t : State} (h : exec i s = .next t) : Accepts i s ↔ t.Accepted := by
  constructor
  · rintro ⟨u, x, hu, hrsp, hst⟩
    cases h.symm.trans hu
    rw [State.Accepted, hrsp, Option.map_some, hst]
  · intro ht
    obtain ⟨x, hrsp, hst⟩ := Option.map_eq_some_iff.mp ht
    exact ⟨t, x, h, hrsp, hst⟩

/-- The checks of a command check all pass exactly when what it asks of the payload holds (R136, R139, R140). -/
theorem firstFailing_checks_eq_none_iff (k : RspCheck) (p : Payload) :
    firstFailing (k.checks p) = none ↔ k.Holds p := by
  cases k with
  | none => exact iff_of_true rfl trivial
  | ack code =>
    rw [firstFailing_ack, RspCheck.Holds]
    split <;> simp [*]
  | magic =>
    rw [firstFailing_magic, RspCheck.Holds]
    split_ifs with h3 h4
    · exact iff_of_true rfl ⟨h3, h4⟩
    · exact iff_of_false nofun fun h => h4 h.2
    · exact iff_of_false nofun fun h => h3 h.1

/-- A command check answers `OK` exactly when it holds. -/
theorem checks_getD_ok_iff (k : RspCheck) (p : Payload) (v : Word32) (f : Payload) :
    ((firstFailing (k.checks p)).getD (okResponse v f)).st = .ok ↔ k.Holds p := by
  rw [← firstFailing_checks_eq_none_iff]
  cases hfirst : firstFailing (k.checks p) with
  | none => simp
  | some e => simp [k.checks_status p hfirst]

/-- What a validator with this command and check accepts (R135). -/
structure AcceptedFrame (cfg : Cfg) (c : RspCmd) (k : RspCheck) (r : Operands) : Prop where
  zero : r.a = 0 ∧ r.b = 0 ∧ r.w.toNat < 0x800
  id : r.w.setWidth 11 = cfg.rspId
  length : byteAt r.p 0 = cfg.rspLenOf c
  status : byteAt r.p 2 = expectedStatus cfg c
  check : k.Holds r.p

theorem decResponse_accepted_iff (c : RspCmd) (k : RspCheck) (ex : Payload → Word32) (r : Operands) (s : State) :
    (decResponse c k ex r s).Accepted ↔ AcceptedFrame s.cfg.raw c k r := by
  rw [decResponse_eq]
  split_ifs with hzero hid hlen hstatus
  · rw [State.accepted_respond, checks_getD_ok_iff]
    exact ⟨fun hcheck => ⟨hzero, hid, hlen, hstatus, hcheck⟩, AcceptedFrame.check⟩
  · exact iff_of_false (by simp [State.accepted_raise]) fun h => hstatus h.status
  · exact iff_of_false (by simp [State.accepted_raise]) fun h => hlen h.length
  · exact iff_of_false (by simp [State.accepted_raise]) fun h => hid h.id
  · exact iff_of_false (by simp [State.accepted_raise]) fun h => hzero h.zero

theorem accepts_decRow_iff {row : DecRow} (hrow : row ∈ decRows) (r : Operands) (s : State) :
    Accepts (row.make r) s ↔ AcceptedFrame s.cfg.raw row.cmd row.check r :=
  (accepts_iff_accepted (exec_decRow hrow r s)).trans (decResponse_accepted_iff _ _ _ r s)

/-- An identifier that fills no bit above its 11 is compared as a number. -/
theorem setWidth_eq_canId_iff {w : Word32} (h : w.toNat < 0x800) (id : CanId) :
    w.setWidth 11 = id ↔ w.toNat = id.toNat := by
  rw [← BitVec.toNat_inj, BitVec.toNat_setWidth, Nat.mod_eq_of_lt h]

/-- Settles O43: the validator's ladder of checks ends in `OK` exactly when none of them fails. -/
theorem decAcceptsExactlyTheMatchingFrames : Obligations.DecAcceptsExactlyTheMatchingFrames := by
  intro row hrow r s ha hb hw
  rw [accepts_decRow_iff hrow, ← setWidth_eq_canId_iff hw]
  exact ⟨fun h => ⟨h.id, h.length, h.status, h.check⟩,
    fun ⟨hid, hlen, hstatus, hcheck⟩ => ⟨⟨ha, hb, hw⟩, hid, hlen, hstatus, hcheck⟩⟩

/-! ### One flipped bit -/

/-- One bit of a payload stands in one byte of it. -/
theorem byteAt_oneBit_eq_zero_iff {n i : Nat} (hn : n < 64) : byteAt (1#64 <<< n) i = 0 ↔ i ≠ n / 8 := by
  have hbit (j : Nat) (hj : j < 8) : (byteAt (1#64 <<< n) i).getLsbD j = decide (n = 8 * i + j) := by
    rw [byteAt, BitVec.getLsbD_extractLsb', ← BitVec.twoPow_eq, BitVec.getLsbD_twoPow]
    simp [hj, hn]
  constructor
  · rintro hzero rfl
    have hset := hbit (n % 8) (Nat.mod_lt _ (by decide))
    rw [hzero, decide_eq_true (Nat.div_add_mod n 8).symm] at hset
    simp at hset
  · intro hne
    refine BitVec.eq_of_getLsbD_eq fun j hj => ?_
    rw [hbit j hj, decide_eq_false (by omega)]
    simp

/-- Flipping a bit changes the byte it stands in and no other. -/
theorem byteAt_flip_eq_iff {n : Nat} (hn : n < 64) (p : Payload) (i : Nat) :
    byteAt (p ^^^ (1#64 <<< n)) i = byteAt p i ↔ i ≠ n / 8 := by
  have hxor : byteAt (p ^^^ (1#64 <<< n)) i = byteAt p i ^^^ byteAt (1#64 <<< n) i := BitVec.extractLsb'_xor
  rw [hxor, ← byteAt_oneBit_eq_zero_iff hn]
  constructor
  · intro h
    exact (BitVec.xor_right_inj (byteAt p i)).mp (h.trans BitVec.xor_zero.symm)
  · intro h
    rw [h]
    exact BitVec.xor_zero

/-- What acceptance asks of an accepted frame's neighbour: the same checked bytes (R137 to R140). -/
theorem AcceptedFrame.withPayload_iff {cfg : Cfg} {c : RspCmd} {k : RspCheck} {r : Operands}
    (h : AcceptedFrame cfg c k r) (q : Payload) :
    AcceptedFrame cfg c k { r with p := q } ↔ ∀ i ∈ k.checkedBytes, byteAt q i = byteAt r.p i := by
  have hframe : AcceptedFrame cfg c k { r with p := q } ↔
      byteAt q 0 = byteAt r.p 0 ∧ byteAt q 2 = byteAt r.p 2 ∧ k.Holds q := by
    rw [h.length, h.status]
    exact ⟨fun hq => ⟨hq.length, hq.status, hq.check⟩,
      fun ⟨hlen, hstatus, hcheck⟩ => ⟨h.zero, h.id, hlen, hstatus, hcheck⟩⟩
  have hcheck := h.check
  rw [hframe]
  cases k with
  | none => simp [RspCheck.checkedBytes, RspCheck.Holds]
  | ack code =>
    rw [RspCheck.Holds] at hcheck
    simp [RspCheck.checkedBytes, RspCheck.Holds, hcheck]
  | magic =>
    rw [RspCheck.Holds] at hcheck
    simp [RspCheck.checkedBytes, RspCheck.Holds, hcheck]

/-- Settles O44: a checked byte must stay as it is, and the flipped bit changes exactly the byte it stands in. -/
theorem singleBitCorruptionIsSeenInCheckedBytes : Obligations.SingleBitCorruptionIsSeenInCheckedBytes := by
  intro row hrow r s n hn haccepts
  have h := (accepts_decRow_iff hrow r s).mp haccepts
  rw [accepts_decRow_iff hrow, h.withPayload_iff]
  simp only [byteAt_flip_eq_iff hn]
  exact ⟨fun hall hmem => hall _ hmem rfl, fun hnot i hi heq => hnot (heq ▸ hi)⟩

/-! ### An ENC frame as a template -/

/-- The first byte of a command frame is two more than the number of its data bytes (R72). -/
theorem commandFrame_length (a o : Byte) (d : List Byte) :
    byteAt (commandFrame a o d) 0 = BitVec.ofNat 8 (2 + d.length) := byteAt_paddedFrame _ (by decide)

/-- A command frame is what FRAME_CMD builds from its own bytes: byte 1 is the address already, and the bytes that the count
leaves out are padding (R132, R143). -/
theorem templateFrame_commandFrame (a o : Byte) (d : List Byte) :
    templateFrame a (3 + d.length) (commandFrame a o d) = commandFrame a o d := by
  refine payload_ext fun i hi => ?_
  rw [byteAt_templateFrame a _ _ hi, commandFrame, byteAt_paddedFrame _ hi]
  split_ifs with h1 hcount
  · rw [h1]; rfl
  · rfl
  · rw [List.getD_eq_default _ _ (by simp only [List.length_cons]; omega)]

/-- Every `ENC` command is the encoder with at most five data bytes and checks that raise errors (R143, R152). -/
theorem exec_enc {i : Instr} (hi : i.op = 0x0A) :
    ∃ c cs d, d.length ≤ 5 ∧ (∀ x ∈ cs, x.2.st ≠ .ok) ∧ ∀ s, exec i s = .next (encCommand c cs d i.operands s) := by
  have herror (b : Bool) : ∀ x ∈ [reservedCheck b], x.2.st ≠ .ok := by simp [reservedCheck]
  cases i with
  | encGetDevInfo r | encPrepare r | encGetBlVer r | encGetAppVer r | encGetHwType r | encGetBatSn r
  | encGetPktLen r | encUpdateCur r | encUpdateAll r | encGetUpdStatus r
  | encSetAppLen r | encSetPktAddr r | encSetPktSeq r | encVerifyPkt r =>
    exact ⟨_, _, _, by simp [leBytes2, leBytes4], herror _, fun _ => rfl⟩
  | encSetPktLen r => exact ⟨_, _, _, by simp [leBytes2], by simp [wordArgument, reservedCheck], fun _ => rfl⟩
  | encVerifyAll r =>
    refine ⟨_, _, _, ?_, by simp [reservedCheck], fun _ => rfl⟩
    split <;> simp [leBytes2, leBytes4]
  | _ => simp [Instr.op] at hi

/-- The one way an encoder answers `OK` (R143). -/
theorem encCommand_of_accepted {c : Cmd} {cs : List Check} {d : List Byte} {r : Operands} {s : State}
    (hcs : ∀ x ∈ cs, x.2.st ≠ .ok) (h : (encCommand c cs d r s).Accepted) :
    encCommand c cs d r s =
      s.respond (okResponse (zext32 s.cfg.raw.cmdId) (commandFrame r.a (s.cfg.raw.opcOf c) d)) := by
  obtain ⟨_, heq⟩ | ⟨e, _, hfirst, heq⟩ | ⟨_, _, heq⟩ := encCommand_cases c cs d r s
  · rw [heq, State.accepted_raise] at h
    cases h
  · rw [heq, State.accepted_raise] at h
    exact absurd h (hcs _ (firstFailing_mem hfirst))
  · exact heq

/-- Settles O45: the encoder's `OK` carries a command frame, and that is its own template frame. -/
theorem encFrameIsATemplateFrame : Obligations.EncFrameIsATemplateFrame := by
  intro i s t x hop h hrsp hst
  obtain ⟨c, cs, d, hd, hcs, hexec⟩ := exec_enc hop
  obtain rfl := Host.Outcome.next.inj (h.symm.trans (hexec s))
  have hok := encCommand_of_accepted (s := s) (r := i.operands) hcs (by rw [State.Accepted, hrsp, Option.map_some, hst])
  rw [hok] at hrsp ⊢
  cases hrsp
  have hcount : (BitVec.ofNat 8 (2 + d.length) + 1).toNat = 3 + d.length := by
    rw [show (1 : Byte) = BitVec.ofNat 8 1 from rfl, ← BitVec.ofNat_add, BitVec.toNat_ofNat]
    omega
  rw [exec_frameCmd, if_pos ⟨rfl, rfl⟩, okResponse_f, commandFrame_length, hcount, if_neg (by omega),
    templateFrame_commandFrame]

/-! ### Update status -/

/-- The row of GET_UPD_STATUS in the response table (R186). -/
def getUpdStatusRow : DecRow := ⟨.decGetUpdStatus, .getUpdStatus, .none, 24, 8⟩

theorem getUpdStatusRow_mem : getUpdStatusRow ∈ decRows := List.mem_of_getElem? (i := 14) rfl

theorem updateVerdict_eq_success_iff (v : Word32) : updateVerdict v = .success ↔ v = 0xAA := by
  unfold updateVerdict
  split_ifs with hsuccess
  · exact iff_of_true rfl hsuccess
  · exact iff_of_false nofun hsuccess
  · exact iff_of_false nofun hsuccess

theorem updateVerdict_eq_inProgress_iff (v : Word32) : updateVerdict v = .inProgress ↔ v = 0x0C ∨ v = 0x0D := by
  unfold updateVerdict
  split_ifs with hsuccess hprogress
  · rw [hsuccess]; decide
  · exact iff_of_true rfl hprogress
  · exact iff_of_false nofun hprogress

theorem zext32_byte_inj (x y : Byte) : zext32 x = zext32 y ↔ x = y := by
  rw [← BitVec.toNat_inj, zext32, zext32, BitVec.toNat_setWidth_of_le (by decide), BitVec.toNat_setWidth_of_le (by decide),
    BitVec.toNat_inj]

/-- A zero-extended identifier fits in 11 bits and is the identifier there (R64, R77). -/
theorem zext32_canId_fits (id : CanId) : (zext32 id).toNat < 0x800 ∧ (zext32 id).setWidth 11 = id := by
  have htoNat : (zext32 id).toNat = id.toNat := BitVec.toNat_setWidth_of_le (by decide)
  have hlt : (zext32 id).toNat < 0x800 := htoNat ▸ id.isLt
  exact ⟨hlt, (setWidth_eq_canId_iff hlt id).mpr htoNat⟩

/-- With identifier, length and status as expected there is no command check, so whatever stands at offset 3 is the value
(R186). -/
theorem exec_decGetUpdStatus {r : Operands} {s : State} (hzero : r.a = 0 ∧ r.b = 0 ∧ r.w.toNat < 0x800)
    (hid : r.w.setWidth 11 = s.cfg.raw.rspId) (hlen : byteAt r.p 0 = s.cfg.raw.rspLenOf .getUpdStatus)
    (hstatus : byteAt r.p 2 = expectedStatus s.cfg.raw .getUpdStatus) :
    exec (.decGetUpdStatus r) s =
      .next (s.respond (okResponse (zext32 (byteAt r.p 3)) (dataBytes (byteAt r.p 0) r.p))) :=
  exec_decRow_checked getUpdStatusRow_mem hzero hid hlen hstatus

/-- A well-addressed GET_UPD_STATUS response with any code and any bytes behind it. -/
def updStatusPayload (cfg : Cfg) (addr code b4 b5 b6 b7 : Byte) : Payload :=
  paddedFrame [cfg.rspLenOf .getUpdStatus, addr, expectedStatus cfg .getUpdStatus, code, b4, b5, b6, b7]

/-- Settles O46: the code is the value extracted, and the caller compares it with three numbers. -/
theorem updateStatusReachesTheCaller : Obligations.UpdateStatusReachesTheCaller := by
  intro s addr code b4 b5 b6 b7
  have hbyte (n : Nat) (hn : n < 8) : byteAt (updStatusPayload s.cfg.raw addr code b4 b5 b6 b7) n = _ :=
    byteAt_paddedFrame _ hn
  obtain ⟨hw, hid⟩ := zext32_canId_fits s.cfg.raw.rspId
  have hexec := exec_decGetUpdStatus (s := s)
    (r := ⟨0, 0, zext32 s.cfg.raw.rspId, updStatusPayload s.cfg.raw addr code b4 b5 b6 b7⟩)
    ⟨rfl, rfl, hw⟩ hid (hbyte 0 (by decide)) (hbyte 2 (by decide))
  rw [hbyte 3 (by decide)] at hexec
  rw [← zext32_canId, ← zext32_byte]
  refine ⟨_, hexec, ?success, ?inProgress⟩
  case success => exact (updateVerdict_eq_success_iff _).trans (zext32_byte_inj code 0xAA)
  case inProgress =>
    exact (updateVerdict_eq_inProgress_iff _).trans (or_congr (zext32_byte_inj code 0x0C) (zext32_byte_inj code 0x0D))

end Sys2Proof.Machine

/-! PROOFS. The statements about the functions of 40_crc.md: the byte steps and their table form (R101, R114), chaining (R107,
R120), the residues (R109, R122), and the request sequences that compute the functions (R112, R124). The loops are the spec's
own (log 10). -/

namespace Sys2Proof.Machine

/-! ### The byte step, for either width -/

/-- Settles O48: eight turns, written out. -/
theorem crcStepsAreEightReflectedTurns : Obligations.CrcStepsAreEightReflectedTurns :=
  ⟨fun _ _ => rfl, fun _ _ => rfl⟩

section

variable {n : Nat} (poly : BitVec n)

/-- The byte step is linear over exclusive or, in the accumulator and the byte together. -/
theorem crcStep_xor (c d : BitVec n) (a b : Byte) :
    crcStep poly (c ^^^ d) (a ^^^ b) = crcStep poly c a ^^^ crcStep poly d b := by
  have hregroup : c ^^^ d ^^^ (a.setWidth n ^^^ b.setWidth n) = (c ^^^ a.setWidth n) ^^^ (d ^^^ b.setWidth n) := by
    ac_rfl
  rw [crcStep, BitVec.setWidth_xor, hregroup, crcShifts_xor]
  rfl

/-- Fed its own low byte, an accumulator is only shifted: no turn shifts out a 1. -/
theorem crcStep_own_low_byte (c : BitVec n) : crcStep poly c (c.setWidth 8) = c >>> 8 := by
  have hlow (i : Nat) (hi : i < 8) : (c ^^^ (c.setWidth 8).setWidth n).getLsbD i = false := by
    by_cases hn : i < n
    · simp [hi, hn]
    · simp [BitVec.getLsbD_of_ge _ i (not_lt.mp hn)]
  rw [crcStep, crcShifts_of_low_zero poly 8 _ hlow]
  refine BitVec.eq_of_getLsbD_eq fun i _ => ?_
  simp

/-- The table form: the entry for `x` is the step of 0 with `x` (R101). -/
theorem crcStep_by_table (c : BitVec n) (b : Byte) :
    crcStep poly c b = (c >>> 8) ^^^ crcStep poly 0 (c.setWidth 8 ^^^ b) := by
  have hbyte : b = c.setWidth 8 ^^^ (c.setWidth 8 ^^^ b) := by
    rw [← BitVec.xor_assoc, BitVec.xor_self, BitVec.zero_xor]
  calc crcStep poly c b = crcStep poly (c ^^^ 0) (c.setWidth 8 ^^^ (c.setWidth 8 ^^^ b)) := by
        rw [← hbyte, show c ^^^ 0 = c from BitVec.xor_zero]
    _ = (c >>> 8) ^^^ crcStep poly 0 (c.setWidth 8 ^^^ b) := by rw [crcStep_xor, crcStep_own_low_byte]

/-- Fed its own low bytes in ascending order, an accumulator is shifted by all of them. -/
theorem foldl_crcStep_own_bytes (c : BitVec n) (k : Nat) :
    ((List.range k).map fun i => c.extractLsb' (8 * i) 8).foldl (crcStep poly) c = c >>> (8 * k) := by
  induction k with
  | zero => simp
  | succ k ih =>
    rw [List.range_succ, List.map_append, List.foldl_append, ih]
    calc crcStep poly (c >>> (8 * k)) (c.extractLsb' (8 * k) 8)
        = crcStep poly (c >>> (8 * k)) ((c >>> (8 * k)).setWidth 8) := by rw [BitVec.setWidth_ushiftRight_eq_extractLsb]
      _ = c >>> (8 * (k + 1)) := by
        rw [crcStep_own_low_byte, ← BitVec.shiftRight_add, Nat.mul_succ]

end

/-- Settles O49: the table form, with the polynomial of CRC16. -/
theorem crc16StepByTable : Obligations.Crc16StepByTable := crcStep_by_table poly16

/-- Settles O50: the table form, with the polynomial of CRC32. -/
theorem crc32StepByTable : Obligations.Crc32StepByTable := crcStep_by_table poly32

/-! ### Buffers one after the other -/

theorem crc16_append (as bs : List Byte) (seed : BitVec 16) : crc16 (as ++ bs) seed = crc16 bs (crc16 as seed) :=
  crc16Run_append seed as bs

/-- The complement on exit of the first part and the one on entry of the second undo each other. -/
theorem crc32_append (as bs : List Byte) (seed : BitVec 32) : crc32 (as ++ bs) seed = crc32 bs (crc32 as seed) := by
  simp only [crc32, crc32Run_append, BitVec.not_not]

/-- Settles O52: the running value goes from one part to the next as it is, for either width. -/
theorem crcsChain : Obligations.CrcsChain := ⟨crc16_append, crc32_append⟩

/-- Settles O53: a zero byte leaves the accumulator 0 as it is. -/
theorem zeroSeedHidesZeroBytes : Obligations.ZeroSeedHidesZeroBytes := by
  intro n
  have hzero : crc16Step 0 0x00 = 0 := rfl
  induction n with
  | zero => exact crc16_nil 0
  | succ n ih =>
    calc crc16 (List.replicate (n + 1) 0x00) 0 = crc16 (List.replicate n 0x00) (crc16Step 0 0x00) := rfl
      _ = 0 := by rw [hzero, ih]

/-! ### Residues -/

theorem crc16Run_own_bytes (c : BitVec 16) : crc16Run c [c.extractLsb' 0 8, c.extractLsb' 8 8] = c >>> 16 :=
  foldl_crcStep_own_bytes poly16 c 2

theorem crc32Run_own_bytes (r : BitVec 32) :
    crc32Run r [r.extractLsb' 0 8, r.extractLsb' 8 8, r.extractLsb' 16 8, r.extractLsb' 24 8] = r >>> 32 :=
  foldl_crcStep_own_bytes poly32 r 4

/-- Settles O54: the accumulator is fed its own two bytes, and so shifted out. -/
theorem crc16ResidueIsZero : Obligations.Crc16ResidueIsZero := by
  intro buf seed
  rw [crc16_append, crc16, crc16Run_own_bytes]
  exact BitVec.ushiftRight_eq_zero (by decide)

/-- The bytes of a complement are the bytes of the value, each with every bit flipped. -/
theorem extractLsb'_not_byte (r : BitVec 32) {i : Nat} (hi : i < 4) :
    (~~~ r).extractLsb' (8 * i) 8 = r.extractLsb' (8 * i) 8 ^^^ 0xFF := by
  have hones : (BitVec.allOnes 32).extractLsb' (8 * i) 8 = 0xFF := by
    interval_cases i <;> rfl
  rw [← BitVec.xor_allOnes, BitVec.extractLsb'_xor, hones]

/-- What the flipped bits alone leave, byte by byte. -/
theorem crc32Run_flips : crc32Run 0 [0xFF, 0xFF, 0xFF, 0xFF] = ~~~ 0x2144DF1C := by
  have h0 : crc32Step 0 0xFF = 0x2D02EF8D := rfl
  have h1 : crc32Step 0x2D02EF8D 0xFF = 0xBE2612FF := rfl
  have h2 : crc32Step 0xBE2612FF 0xFF = 0x00BE2612 := rfl
  have h3 : crc32Step 0x00BE2612 0xFF = ~~~ 0x2144DF1C := rfl
  simp only [crc32Run_cons, crc32Run_nil, h0, h1, h2, h3]

/-- The register fed the bytes of its complement: its own bytes shift it out, and the flipped bits leave a constant. -/
theorem crc32Run_complement_bytes (r : BitVec 32) :
    crc32Run r [(~~~ r).extractLsb' 0 8, (~~~ r).extractLsb' 8 8, (~~~ r).extractLsb' 16 8, (~~~ r).extractLsb' 24 8] =
      ~~~ 0x2144DF1C := by
  have hxor (c d : BitVec 32) (a b : Byte) : crc32Step (c ^^^ d) (a ^^^ b) = crc32Step c a ^^^ crc32Step d b :=
    crcStep_xor poly32 c d a b
  calc crc32Run r _
      = crc32Run (r ^^^ 0) [r.extractLsb' 0 8 ^^^ 0xFF, r.extractLsb' 8 8 ^^^ 0xFF, r.extractLsb' 16 8 ^^^ 0xFF,
          r.extractLsb' 24 8 ^^^ 0xFF] := by
        rw [extractLsb'_not_byte r (i := 0) (by decide), extractLsb'_not_byte r (i := 1) (by decide),
          extractLsb'_not_byte r (i := 2) (by decide), extractLsb'_not_byte r (i := 3) (by decide),
          show r ^^^ 0 = r from BitVec.xor_zero]
    _ = crc32Run r [r.extractLsb' 0 8, r.extractLsb' 8 8, r.extractLsb' 16 8, r.extractLsb' 24 8] ^^^
          crc32Run 0 [0xFF, 0xFF, 0xFF, 0xFF] := by
        simp only [crc32Run_cons, crc32Run_nil, hxor]
    _ = ~~~ 0x2144DF1C := by
        rw [crc32Run_own_bytes, crc32Run_flips, BitVec.ushiftRight_eq_zero (by decide)]
        rfl

/-- Settles O55: the CRC is the register's complement, so its bytes are the flipped bytes of the register. -/
theorem crc32ResidueIsConstant : Obligations.Crc32ResidueIsConstant := by
  intro buf seed
  rw [crc32_append]
  have hres := crc32Run_complement_bytes (~~~ crc32 buf seed)
  rw [BitVec.not_not] at hres
  rw [crc32, hres, BitVec.not_not]

/-! ### Requests offered on the port -/

/-- Performing instructions one after the other leads from one state to another. -/
inductive Performs : List Instr → State → State → Prop
  | nil (s : State) : Performs [] s s
  | cons {i : Instr} {is : List Instr} {s t u : State} (h : exec i s = .next t) (hrest : Performs is t u) :
      Performs (i :: is) s u

theorem Performs.append {is js : List Instr} {s t u : State} (h : Performs is s t) (h' : Performs js t u) :
    Performs (is ++ js) s u := by
  induction h with
  | nil s => exact h'
  | cons hexec _ ih => exact .cons hexec (ih h')

/-- The state with other events on the port. -/
def State.withPort (s : State) (port : List PortEvent) : State := { s with port := port }

/-- Running checks does not look at the port. -/
theorem State.answer_withPort {s done done' : State} {cs : List Check} {port : List PortEvent}
    (h : done' = done.withPort port) : (s.withPort port).answer cs done' = (s.answer cs done).withPort port := by
  subst h
  unfold State.answer
  cases firstFailing cs <;> rfl

/-- No instruction reads the port or writes it. -/
theorem exec_withPort {i : Instr} {s t : State} (h : exec i s = .next t) (port : List PortEvent) :
    exec i (s.withPort port) = .next (t.withPort port) := by
  have hcodec := exec_codec (i := i)
  cases i with
  | crc16Init k r | crc16Feed k r | crc16Read k r | crc32Init k r | crc32Feed k r | crc32Read k r =>
    cases h
    exact congrArg Host.Outcome.next (State.answer_withPort rfl)
  | _ =>
    obtain ⟨f, hf⟩ := hcodec (by simp [Instr.op])
    cases h.symm.trans (hf s)
    exact hf (s.withPort port)

/-- A run begins with a step, for any machine. -/
theorem run_succ {M : Host.Core} {s t : M.State} (h : M.step s = .next t) (k : Nat) : M.run (k + 1) s = M.run k t := by
  rw [Host.Core.run, h]

theorem core_run_succ {s t : State} (h : step s = .next t) (k : Nat) : core.run (k + 1) s = core.run k t :=
  run_succ (M := core) h k

/-- The bytes of an instruction at the head of the port make the next step that instruction (R43, R47). -/
theorem step_offered (i : Instr) (rest : List PortEvent) (s : State) :
    step (s.withPort (byteEvents (encodeBytes i) ++ rest)) = exec i (s.withPort rest) := by
  obtain ⟨hdecode, _⟩ := decodeAndEncodeAgree
  exact step_decode_ok (s := s.withPort (byteEvents (encodeBytes i) ++ rest)) rfl (bytesOfWord_length _) (hdecode i)

/-- One step for each request offered performs the requests and takes them from the port (R238). -/
theorem run_offered {is : List Instr} {s t : State} (h : Performs is s t) (rest : List PortEvent) :
    core.run is.length (s.withPort (Asm.offered is ++ rest)) = .next (t.withPort rest) := by
  induction h with
  | nil s => rfl
  | @cons i is s t u hexec _ ih =>
    have hport : Asm.offered (i :: is) ++ rest = byteEvents (encodeBytes i) ++ (Asm.offered is ++ rest) :=
      (congrArg (· ++ rest) List.flatMap_cons).trans (List.append_assoc _ _ _)
    have hstep := (step_offered i (Asm.offered is ++ rest) s).trans (exec_withPort hexec _)
    rw [← hport] at hstep
    exact (core_run_succ hstep is.length).trans ih

/-- `init`, a feed for each chunk, `read`: `state c` is the block with the accumulator at `c`, which a feed moves on by its
bytes and which the read leads to `done c`. -/
theorem performs_buf {α : Type} {init read : Instr} {feed : List Byte → Instr} {run : α → List Byte → α}
    {state done : α → State} {s : State} {seed : α} (hrun : ∀ c as bs, run c (as ++ bs) = run (run c as) bs)
    (hnil : ∀ c, run c [] = c) (hinit : exec init s = .next (state seed))
    (hfeed : ∀ c bs, bs.length ≤ 8 → exec (feed bs) (state c) = .next (state (run c bs)))
    (hread : ∀ c, exec read (state c) = .next (done c)) (buf : List Byte) :
    Performs (init :: (Asm.chunksOf8 buf).map feed ++ [read]) s (done (run seed buf)) := by
  have hfeeds (chunks : List (List Byte)) (hlen : ∀ bs ∈ chunks, bs.length ≤ 8) (c : α) :
      Performs (chunks.map feed) (state c) (state (run c chunks.flatten)) := by
    induction chunks generalizing c with
    | nil => rw [List.flatten_nil, hnil]; exact .nil _
    | cons bs chunks ih =>
      obtain ⟨hbs, hchunks⟩ := List.forall_mem_cons.mp hlen
      rw [List.flatten_cons, hrun]
      exact .cons (hfeed c bs hbs) (ih hchunks _)
  have hall := hfeeds (Asm.chunksOf8 buf) (Asm.length_le_of_mem_chunksOf8 buf) seed
  rw [Asm.chunksOf8_flatten] at hall
  exact .append (.cons hinit hall) (.cons (hread _) (.nil _))

/-- The bytes that a feed of at most eight bytes counts are those bytes (R80). -/
theorem countedBytes_counted (addr : Byte) {bs : List Byte} (h : bs.length ≤ 8) :
    (Asm.counted addr bs).b.toNat = bs.length ∧ countedBytes (Asm.counted addr bs) = bs := by
  have hcount : (Asm.counted addr bs).b.toNat = bs.length := by
    simp only [Asm.counted, BitVec.toNat_ofNat]
    omega
  exact ⟨hcount, by rw [countedBytes, hcount]; exact payloadBytes_paddedFrame_take bs h⟩

/-- Settles O56: INIT loads the seed, each feed runs its own bytes and the chunks in order are the buffer, READ answers. -/
theorem crc16BufComputesTheFunction : Obligations.Crc16BufComputesTheFunction := by
  intro seed buf s rest hport
  have hperforms : Performs (Asm.crc16Buf (seed.setWidth 32) buf) s
      ((s.initAcc16 (crc16 buf seed)).respond (okResponse (zext32 (crc16 buf seed)) 0)) := by
    refine performs_buf (state := fun c => (s.initAcc16 c).respond okDone)
      (done := fun c => (s.initAcc16 c).respond (okResponse (zext32 c) 0))
      crc16Run_append crc16Run_nil ?init (fun c bs hbs => ?feed) (fun c => ?read) buf
    case init =>
      have hseed : (seed.setWidth 32).setWidth 16 = seed := BitVec.setWidth_setWidth_of_le _ (by decide)
      have hlt : (seed.setWidth 32).toNat < 0x10000 := by
        rw [BitVec.toNat_setWidth_of_le (by decide)]
        exact seed.isLt
      rw [Asm.crc16Init, exec_crc16Init, if_pos ⟨rfl, rfl, rfl, hlt, rfl⟩, hseed]
    case feed =>
      obtain ⟨hcount, hbytes⟩ := countedBytes_counted 0 hbs
      rw [Asm.crc16Feed, exec_crc16Feed, if_pos ⟨rfl, rfl, rfl⟩, hcount, if_neg hbs.not_gt, State.respond_v16,
        State.initAcc16_v16, if_pos rfl, hbytes]
      rfl
    case read =>
      rw [Asm.crc16Read, exec_crc16Read, if_pos ⟨rfl, rfl, rfl, rfl, rfl⟩, State.respond_v16,
        State.initAcc16_v16, if_pos rfl]
      rfl
  have hs : s = s.withPort (Asm.offered (Asm.crc16Buf (seed.setWidth 32) buf) ++ rest) := by
    rw [State.withPort, ← hport]
  rw [hs]
  exact run_offered hperforms rest

/-- Settles O57: as for CRC16; the register holds the complement from INIT to READ. -/
theorem crc32BufComputesTheFunction : Obligations.Crc32BufComputesTheFunction := by
  intro seed buf s rest hport
  have hperforms : Performs (Asm.crc32Buf seed buf) s
      ((s.initAcc32 (~~~ crc32 buf seed)).respond (okResponse (crc32 buf seed) 0)) := by
    have hcrc : ~~~ crc32 buf seed = crc32Run (~~~ seed) buf := BitVec.not_not
    rw [hcrc]
    refine performs_buf (state := fun c => (s.initAcc32 c).respond okDone)
      (done := fun c => (s.initAcc32 c).respond (okResponse (~~~ c) 0))
      crc32Run_append crc32Run_nil ?init (fun c bs hbs => ?feed) (fun c => ?read) buf
    case init => rw [Asm.crc32Init, exec_crc32Init, if_pos ⟨rfl, rfl, rfl, rfl⟩]
    case feed =>
      obtain ⟨hcount, hbytes⟩ := countedBytes_counted 0 hbs
      rw [Asm.crc32Feed, exec_crc32Feed, if_pos ⟨rfl, rfl, rfl⟩, hcount, if_neg hbs.not_gt, State.respond_v32,
        State.initAcc32_v32, if_pos rfl, hbytes]
      rfl
    case read =>
      rw [Asm.crc32Read, exec_crc32Read, if_pos ⟨rfl, rfl, rfl, rfl, rfl⟩, State.respond_v32,
        State.initAcc32_v32, if_pos rfl]
      rfl
  have hs : s = s.withPort (Asm.offered (Asm.crc32Buf seed buf) ++ rest) := by
    rw [State.withPort, ← hport]
  rw [hs]
  exact run_offered hperforms rest

end Sys2Proof.Machine

/-! PROOFS. The statement about the response lengths a builder gets (42_dfu_commands.md R151). -/

namespace Sys2Proof

/-! ### The lengths of a builder's record -/

/-- The four lengths of the source, which no builder replaces. -/
theorem Cfg.ofBuilder_fixedLengths (o : OpenParams) (c : LenChoices) :
    let len := (Cfg.ofBuilder o c).rspLenOf
    len .prepare = 5 ∧ len .getBlVer = 7 ∧ len .setPktLen = 3 ∧ len .verifyAll = 3 := ⟨rfl, rfl, rfl, rfl⟩

/-- The six defaults, each in force unless replaced. -/
theorem Cfg.ofBuilder_defaultLengths (o : OpenParams) (c : LenChoices) :
    let len := (Cfg.ofBuilder o c).rspLenOf
    len .getPktLen = c.getPktLen.getD 4 ∧ len .setAppLen = c.setAppLen.getD 6 ∧ len .setPktSeq = c.setPktSeq.getD 5 ∧
      len .sendPkt = c.sendPkt.getD 3 ∧ len .verifyPkt = c.verifyPkt.getD 3 ∧
      len .getUpdStatus = c.getUpdStatus.getD 3 := ⟨rfl, rfl, rfl, rfl, rfl, rfl⟩

/-- The five lengths that only the builder knows. -/
theorem Cfg.ofBuilder_openLengths (o : OpenParams) (c : LenChoices) :
    let len := (Cfg.ofBuilder o c).rspLenOf
    len .getDevInfo = o.lens.getDevInfo ∧ len .getAppVer = o.lens.getAppVer ∧ len .getHwType = o.lens.getHwType ∧
      len .getBatSn = o.lens.getBatSn ∧ len .setPktAddr = o.lens.setPktAddr := ⟨rfl, rfl, rfl, rfl, rfl⟩

/-- A length from its minimum to 7 (R27 items 3 and 5). -/
def lengthInRange (least : Nat) (l : Byte) : Prop := least ≤ l.toNat ∧ l.toNat ≤ 7

/-- A default that is in range stays so when it is replaced in range. -/
theorem lengthInRange_getD {least : Nat} {replaced : Option Byte} {default : Byte} (hdefault : lengthInRange least default)
    (h : ∀ l ∈ replaced, lengthInRange least l) : lengthInRange least (replaced.getD default) := by
  cases replaced with
  | none => exact hdefault
  | some l => exact h l rfl

/-- No response is shorter than 2 (R151). -/
theorem RspCmd.two_le_minLen (k : RspCmd) : 2 ≤ k.minLen := by cases k <;> decide

/-- Distinct identifiers, opcodes without bit 6 and lengths in range make a legal record (R27). -/
theorem Cfg.legal_ofBuilder {o : OpenParams} {c : LenChoices}
    (hid : o.cmdId ≠ o.datId ∧ o.cmdId ≠ o.rspId ∧ o.datId ≠ o.rspId)
    (hopc : ∀ k : Cmd, ((Cfg.ofBuilder o c).opcOf k).getLsbD 6 = false)
    (hlen : ∀ k : RspCmd, lengthInRange k.minLen ((Cfg.ofBuilder o c).rspLenOf k)) :
    (Cfg.ofBuilder o c).legal = true :=
  (Cfg.legal_iff _).mpr ⟨⟨BitVec.isLt _, BitVec.isLt _, BitVec.isLt _, hid⟩, hopc,
    fun k => ⟨k.two_le_minLen.trans (hlen k).1, (hlen k).2⟩, Cfg.ofBuilder_fixedLengths o c, fun k => (hlen k).1⟩

end Sys2Proof

namespace Sys2Proof.Machine

/-- A block that a builder gets holds the record the builder made. -/
theorem State.cfg_of_buildFrom {o : OpenParams} {c : LenChoices} {s : State} (h : State.buildFrom o c = .next s) :
    s.cfg.raw = Cfg.ofBuilder o c := by
  obtain ⟨_, rfl⟩ := State.build_eq_next_iff.mp h
  rfl

/-- Settles O58: the record's lengths are read off the table a builder makes, with every default in force at State.reset; and
each replaced or supplied length meets R27 on its own. -/
theorem defaultLengthsHoldUnlessReplaced : Obligations.DefaultLengthsHoldUnlessReplaced := by
  refine ⟨⟨rfl, rfl, rfl, rfl, rfl, rfl, rfl, rfl, rfl, rfl⟩, fun o c s h => ?built, fun o c hid hopc hopen hchoice => ?builds⟩
  case built =>
    rw [State.cfg_of_buildFrom h]
    exact ⟨Cfg.ofBuilder_fixedLengths o c, Cfg.ofBuilder_defaultLengths o c, Cfg.ofBuilder_openLengths o c⟩
  case builds =>
    simp only [List.forall_mem_cons] at hopen hchoice
    obtain ⟨hDevInfo, hAppVer, hHwType, hBatSn, hSetPktAddr, _⟩ := hopen
    obtain ⟨hPktLen, hSetAppLen, hSetPktSeq, hSendPkt, hVerifyPkt, hUpdStatus, _⟩ := hchoice
    have hlen (k : RspCmd) : lengthInRange k.minLen ((Cfg.ofBuilder o c).rspLenOf k) := by
      cases k with
      | prepare => exact (⟨by decide, by decide⟩ : lengthInRange 5 5)
      | getBlVer => exact (⟨by decide, by decide⟩ : lengthInRange 7 7)
      | setPktLen | verifyAll => exact (⟨by decide, by decide⟩ : lengthInRange 3 3)
      | getDevInfo => exact hDevInfo
      | getAppVer => exact hAppVer
      | getHwType => exact hHwType
      | getBatSn => exact hBatSn
      | setPktAddr => exact hSetPktAddr
      | getPktLen => exact lengthInRange_getD ⟨by decide, by decide⟩ hPktLen
      | setAppLen => exact lengthInRange_getD ⟨by decide, by decide⟩ hSetAppLen
      | setPktSeq => exact lengthInRange_getD ⟨by decide, by decide⟩ hSetPktSeq
      | sendPkt => exact lengthInRange_getD ⟨by decide, by decide⟩ hSendPkt
      | verifyPkt => exact lengthInRange_getD ⟨by decide, by decide⟩ hVerifyPkt
      | getUpdStatus => exact lengthInRange_getD ⟨by decide, by decide⟩ hUpdStatus
    exact ⟨_, State.build_eq_next_iff.mpr ⟨Cfg.legal_ofBuilder hid hopc hlen, rfl⟩⟩

end Sys2Proof.Machine
